-- ==== Sys2Proof/Word.lean ====
section
/-! DEFINITION. The word types of the TC48's records, registers and counters (00_scope.md, section 6). -/

namespace Sys2Proof

/-- One byte of a record, a header or a payload. -/
abbrev Byte := BitVec 8

/-- A 16-bit field: sequence numbers, tags and raw samples. -/
abbrev W16 := BitVec 16

/-- A 32-bit field: TBC values and angle accumulators. -/
abbrev W32 := BitVec 32

end Sys2Proof
end

