-- ==== Sys2Proof/Syntax.lean ====
section
/-! DEFINITION. The commands of the block: one constructor for each row of spec/opcode_table.json.
Rows that are events of the part or of its pins carry what comes from outside the part with them (a raw
sample, a converter code, the bytes of a record); rows that are host commands carry the record's tag and the
fields of section 10.5. -/

namespace Sys2Proof

/-- The two eyes (00_scope.md, section 6). -/
inductive Eye where
  | left
  | right
  deriving DecidableEq, Repr

/-- The three mark channels of the Frame Timebase (R11). -/
inductive MarkChannel where
  /-- Scan start, at the live S. -/
  | ec2
  /-- Monitor frame-round trigger, at the live monitor mark tick. -/
  | ec3
  /-- Lane wake, at the live W. -/
  | ec4
  deriving DecidableEq, Repr

/-- The six signed 16-bit raw values of one sample read (R61). -/
structure RawSample where
  gx : W16
  gy : W16
  gz : W16
  ax : W16
  ay : W16
  az : W16
  deriving DecidableEq, Repr

/-- TIMING SET (R8). `stray` is set when a presence bit above the listed fields is set (R166). -/
structure TimingFields where
  stray : Bool
  p : Option W16
  s : Option W16
  l : Option W16
  monTick : Option W16
  deriving DecidableEq, Repr

/-- SYNC (R10). -/
structure SyncFields where
  stray : Bool
  polarity : Option Byte
  tick : Option W16
  width : Option W16
  deriving DecidableEq, Repr

/-- STROBE SET (R49). -/
structure StrobeFields where
  stray : Bool
  cL : Option W16
  cR : Option W16
  wReq : Option W16
  iPk : Option W16
  deriving DecidableEq, Repr

/-- SHIFT SET (R92). -/
structure ShiftFields where
  stray : Bool
  enable : Option Byte
  ppdX : Option W16
  ppdY : Option W16
  maxX : Option W16
  maxY : Option W16
  hMax : Option W16
  deriving DecidableEq, Repr

/-- LANE SET (R140). -/
structure LaneFields where
  stray : Bool
  policy : Option Byte
  dReq : Option W16
  dMin : Option W16
  tWait : Option W16
  w : Option W16
  deriving DecidableEq, Repr

/-- MODE AUTODOZE (R146); the delay is in seconds. -/
structure AutodozeFields where
  stray : Bool
  autoDoze : Option Byte
  delay : Option Byte
  polarity : Option Byte
  deriving DecidableEq, Repr

/-- MOTION START (R57). -/
structure MotionStartFields where
  stray : Bool
  rate : W16
  batch : Byte
  identity : Byte
  edge : Option Byte
  deriving DecidableEq, Repr

/-- BIAS SET (R70); each value is signed. -/
structure BiasFields where
  stray : Bool
  x : Option W16
  y : Option W16
  z : Option W16
  deriving DecidableEq, Repr

/-- CALIBRATE (R71). -/
structure CalibrateFields where
  stray : Bool
  n : W16
  stillness : Option W16
  deriving DecidableEq, Repr

/-- RECENTRE (R73): the mode byte, and for SET and ADD the three signed values. -/
structure RecentreFields where
  mode : Byte
  yaw : W32
  pitch : W32
  roll : W32
  deriving DecidableEq, Repr

/-- WAKEFILTER SET (R77). -/
structure WakeFilterFields where
  index : Byte
  enable : Byte
  axes : Byte
  threshold : W16
  runCount : Byte
  deriving DecidableEq, Repr

/-- AUDIO SET (R111). -/
structure AudioFields where
  stray : Bool
  gainL : Option W16
  gainR : Option W16
  prefill : Option W16
  blockSize : Option W16
  deriving DecidableEq, Repr

/-- One limit item of MONITOR SET (section 10.5): the two limits are sent even when absent. -/
structure LimitItem where
  input : Byte
  presence : Byte
  low : W16
  high : W16
  deriving DecidableEq, Repr

/-- MONITOR SET (R124). -/
structure MonitorFields where
  stray : Bool
  mask : Option Byte
  divider : Option W16
  items : List LimitItem
  deriving DecidableEq, Repr

/-- LIMITS SET (R129). -/
structure LimitsFields where
  stray : Bool
  rs : Option W16
  vuv : Option W16
  wFloor : Option W16
  ts : Option W16
  tLim : Option W16
  deriving DecidableEq, Repr

/-- The commands of the block, in the order of spec/opcode_table.json. -/
inductive Instr where
  | resetRelease
  | powerOnReset
  | supplyDipReset
  | sidebandLoss
  | frameWrap
  | mark (ch : MarkChannel)
  | strobeOn (e : Eye)
  | strobeOff (e : Eye)
  | syncPulseStart
  | syncPulseEnd
  /-- `rising` is the direction of the edge on the data-ready line. -/
  | dataReadyEdge (rising : Bool)
  | take (e : Eye) (k : Fin 16)
  | endRequest
  | signalDetected
  | trainingLock
  | trainingTimeout
  | signalLoss
  | activityInIdle
  /-- `header` holds the bytes of the burst's header, fewer than the kind's header length when the burst ends early. -/
  | burstStart (header : List Byte)
  /-- `payload` holds the payload bytes received and `crc` the bytes after the stated payload length, four of them where
  the burst does not end early. -/
  | burstEnd (payload : List Byte) (crc : List Byte)
  | wakingEnd
  | idleEntry
  | identityReadComplete (identity : Byte)
  | configWriteComplete
  | firstSampleTimeout
  | sampleReadComplete (raw : RawSample)
  | rateWriteComplete
  | powerDownWriteComplete
  | stallTimeout
  | outputPeriod
  | micSample (sample : W16)
  | conversionComplete (code : BitVec 12)
  | panelPowerUpDone
  | panelPowerDownDone
  | offHeadTimeout
  /-- `high` is the level of the proximity line after the edge. -/
  | proximityEdge (high : Bool)
  /-- `bytes` holds the downstream bytes up to and including the last CRC byte of the record. -/
  | recordReceived (bytes : List Byte)
  /-- `bytes` holds the downstream bytes up to and including offset 6 of the record. -/
  | recordLengthReject (bytes : List Byte)
  | byteTimeout
  | commandBegin
  | recordSent
  | identify (tag : Byte)
  | statusRead (tag : Byte)
  | statusReadClear (tag : Byte)
  | reset (tag : Byte)
  | timingSet (tag : Byte) (f : TimingFields)
  | timingGet (tag : Byte)
  | sync (tag : Byte) (f : SyncFields)
  | strobeSet (tag : Byte) (f : StrobeFields)
  | strobeGet (tag : Byte)
  | shiftSet (tag : Byte) (f : ShiftFields)
  | shiftGet (tag : Byte)
  | shiftProbe (tag : Byte) (ref : W16) (target : W32)
  | holdSet (tag : Byte) (hold : Byte)
  | holdTable (tag : Byte)
  | laneSet (tag : Byte) (f : LaneFields)
  | laneGet (tag : Byte)
  /-- MODE with the target byte as sent: 0 is RUN; a byte outside the table's four codes is carried by this row. -/
  | modeRun (tag : Byte) (target : Byte)
  | modeStandby (tag : Byte)
  | modeDoze (tag : Byte)
  | modeWake (tag : Byte)
  | modeAutodoze (tag : Byte) (f : AutodozeFields)
  | modeGet (tag : Byte)
  | wakesourceRead (tag : Byte)
  | wakesourceClear (tag : Byte)
  | motionStart (tag : Byte) (f : MotionStartFields)
  | motionStop (tag : Byte)
  | motionGet (tag : Byte)
  | biasSet (tag : Byte) (f : BiasFields)
  | biasGet (tag : Byte)
  | calibrate (tag : Byte) (f : CalibrateFields)
  | recentre (tag : Byte) (f : RecentreFields)
  | wakefilterSet (tag : Byte) (f : WakeFilterFields)
  | wakefilterGet (tag : Byte)
  | audioSet (tag : Byte) (f : AudioFields)
  | audioPlayStart (tag : Byte)
  | audioPlayStop (tag : Byte)
  | micStart (tag : Byte)
  | micStop (tag : Byte)
  | audioGet (tag : Byte)
  | monitorSet (tag : Byte) (f : MonitorFields)
  | monitorStop (tag : Byte)
  | monitorGet (tag : Byte)
  /-- ROUND with the mode byte as sent: 0 is ONE_SHOT; a byte outside the table's two codes is carried by this row. -/
  | roundOneShot (tag : Byte) (mode : Byte) (first : Byte) (last : Byte)
  | roundContinuous (tag : Byte) (first : Byte) (last : Byte)
  | allowanceSet (tag : Byte) (allowance : W16)
  | allowanceGet (tag : Byte)
  | limitsSet (tag : Byte) (f : LimitsFields)
  | limitsGet (tag : Byte)
  | sidebandSignalPresent
  deriving DecidableEq, Repr

end Sys2Proof
end

