-- ==== Sys2Proof/Decode.lean ====
section
/-! DEFINITION. The reading of a table word. spec/opcode_table.json gives no row of this block any bits, so no word
spells a command. How the bytes of a sideband record spell one (R151, R166) is Machine/Records.lean. -/

namespace Sys2Proof

/-- The command spelled by a word of the opcode table's bits: none, since no row gives bits. -/
def decodeTableWord (_nbits _w : Nat) : Option Instr := none

end Sys2Proof
end

