-- ==== Sys2Proof/Config.lean ====
section
/-! DEFINITION. What the manual leaves open: constants with no body, so that no proof can see their value. -/

namespace Sys2Proof.Config

/-- The part identity code of the TC48 (R161): the manual names the field and gives no number. Log entry 3. -/
opaque partIdentity : W16

/-- The silicon revision number (R161): the manual names the field and gives no number. Log entry 3. -/
opaque siliconRevision : Byte

/-- The quotient of R126 step 6 at VIN = 0, which R126 says never arises. Log entry 4.
The argument is the numerator of the quotient. -/
opaque widthQuotientAtZeroVin : Nat → Nat

end Sys2Proof.Config
end

