-- ==== Sys2Proof/Machine/State.lean ====
section
/-! DEFINITION. The state of the TC48, block by block, as plain data, and its value right after a reset. Each field
cites the rule that gives it. INVENTORY.md lists every one with its reset value. -/

namespace Sys2Proof.Machine

/-- Why a step stops with a fault. No rule of the manual stops the part, so no constructor is needed: the type is
empty, and that no command faults holds by its type. Nothing raises it (safe). -/
inductive Fault where
  deriving DecidableEq, Repr

/-- Why a command is refused. -/
inductive Refusal where
  /-- Raised by `exec` alone, for a command whose meaning is not written yet (safe). No arm answers with it. -/
  | notModelled (mnemonic : String)
  deriving DecidableEq, Repr

/-! ## Values held once for each eye -/

/-- A value for each of the two eyes. -/
structure Eyes (α : Type) where
  l : α
  r : α
  deriving DecidableEq, Repr

/-- The value of one eye. -/
def Eyes.at {α : Type} (v : Eyes α) : Eye → α
  | .left => v.l
  | .right => v.r

/-- The pair with one eye's value replaced. -/
def Eyes.put {α : Type} (v : Eyes α) (e : Eye) (x : α) : Eyes α :=
  match e with
  | .left => { v with l := x }
  | .right => { v with r := x }

/-- The same value for both eyes. -/
def Eyes.both {α : Type} (x : α) : Eyes α := { l := x, r := x }

/-! ## Frame Timebase (chapter 1) -/

/-- Sync polarity (R5). -/
inductive Polarity where
  | activeHigh
  | activeLow
  deriving DecidableEq, Repr

/-- One copy of the timing set, with the fields of the table of R5. -/
structure TimingSet where
  /-- Frame period P, µs. -/
  p : Nat
  /-- Scan start tick S. -/
  s : Nat
  /-- Slice period L, µs. -/
  l : Nat
  /-- Monitor mark tick. -/
  monTick : Nat
  cL : Nat
  cR : Nat
  /-- Requested strobe width w_req, µs. -/
  wReq : Nat
  /-- Peak backlight current I_pk, mA. -/
  iPk : Nat
  /-- Lane wake mark tick W. -/
  w : Nat
  syncPolarity : Polarity
  syncTick : Nat
  syncWidth : Nat
  shiftEnable : Bool
  ppdX : Nat
  ppdY : Nat
  maxX : Nat
  maxY : Nat
  /-- Horizon limit H_max, µs. -/
  hMax : Nat
  /-- Hold limit H. -/
  hold : Nat
  deriving DecidableEq, Repr

/-- The defaults of the table of R5. -/
def TimingSet.default : TimingSet :=
  { p := 11111, s := 300, l := 600, monTick := 100, cL := 10500, cR := 10500, wReq := 0, iPk := 0, w := 10800,
    syncPolarity := .activeHigh, syncTick := 0, syncWidth := 0, shiftEnable := false, ppdX := 5120, ppdY := 5120,
    maxX := 64, maxY := 60, hMax := 25000, hold := 2 }

/-- One eye's strobe pulse in the current frame: on from tick `start` to tick `stop` − 1 (R12). -/
structure Pulse where
  start : Nat
  stop : Nat
  deriving DecidableEq, Repr

/-- Frame Timebase (R1, R2, R5, R11 to R17). -/
structure Ftb where
  /-- Timebase clock TBC (R1). -/
  tbc : W32
  /-- Frame counter FC (R2). -/
  fc : Nat
  /-- The model's own: the microsecond of a frame wrap has begun and the wrap has not yet been taken. Log entry 6. -/
  wrapDue : Bool
  /-- Frame sequence FS (R2). -/
  fs : W16
  frameStart : W32
  live : TimingSet
  staged : TimingSet
  /-- The marks already raised in the current frame (R11: once in every frame). -/
  marked2 : Bool
  marked3 : Bool
  marked4 : Bool
  /-- The pulses of the current frame, none where no pulse runs (R12, R13). -/
  pulse : Eyes (Option Pulse)
  /-- The two strobe outputs EC0 and EC1. -/
  strobe : Eyes Bool
  /-- Strobe cut (R14). -/
  cut : Bool
  /-- The sync output EC6 is at its active level (R15). -/
  syncActive : Bool
  /-- Capture slot of EC5, none when empty (R17). -/
  slot : Option W32
  overrun : Bool
  armed : Bool
  /-- Selected edge of EC5: rising (R16). -/
  edgeRising : Bool
  deriving DecidableEq, Repr

/-! ## Picture Lane Receiver and Slice Memory (chapters 2 and 8.2) -/

/-- Picture lane states (section 2.1). -/
inductive LaneState where
  | down
  | training
  | active
  | idle
  | waking
  deriving DecidableEq, Repr

/-- The burst in progress on the lane (R21 to R24, R137). -/
inductive Burst where
  | none
  /-- Its start fell before the lane became ACTIVE, in TRAINING, IDLE or WAKING; its remainder is not parsed (R21,
  R137). -/
  | lost
  /-- Its payload is being skipped, as malformed or for want of a cell (R22, R27). -/
  | skipped
  /-- A slice burst filling the numbered cell (R27). -/
  | slice (cell : Nat)
  /-- An audio burst in the receive buffer: block tag and sample-frame count (R24). -/
  | audio (tag : W16) (count : Nat)
  deriving DecidableEq, Repr

/-- Picture Lane Receiver. -/
structure Plr where
  /-- Input: a line signal is present on the picture lane. -/
  signal : Bool
  lane : LaneState
  /-- Microseconds left of the 2 ms training interval (R19). -/
  trainLeft : Nat
  /-- Microseconds left of T_wait while WAKING (R21). -/
  waitLeft : Nat
  burst : Burst
  /-- Last-burst-end TBC (R137). -/
  lastEnd : Option W32
  /-- Idle policy enabled (section 8.2). -/
  policy : Bool
  dReq : Nat
  dMin : Nat
  tWait : Nat
  /-- TBC of the latest idle entry and the resume TBC it named (R140). -/
  lastIdle : Option (W32 × W32)
  /-- The doze hold (R142). -/
  hold : Bool
  deriving DecidableEq, Repr

/-- States of a cell that is not FREE (section 2.3). -/
inductive Phase where
  | filling
  | ready
  | scanning
  | retained
  | draining
  deriving DecidableEq, Repr

/-- The record and content of a cell that is not FREE (section 2.3). -/
structure Slice where
  phase : Phase
  eye : Eye
  index : Nat
  tag : W16
  ref : W16
  arrival : Option W32
  scanEnd : Option W32
  hold : Nat
  pinned : Bool
  /-- Microseconds since the last scan end, saturating at 2^32 − 1 (R28). -/
  age : Nat
  /-- The slice's payload bytes (R165); empty while FILLING. -/
  content : List Byte
  deriving DecidableEq, Repr

/-- Slice Memory: 40 cells, a FREE cell is `none`, and the up-neighbour candidate of each eye. -/
structure Slm where
  cells : List (Option Slice)
  up : Eyes (Option Nat)
  deriving DecidableEq, Repr

/-! ## Scanout Engine (chapter 3) -/

/-- Scanning states (section 3.1). -/
inductive ScanState where
  | stopped
  | startPending
  | scanning
  | stopPending
  deriving DecidableEq, Repr

/-- Governor states (section 7.8). -/
inductive GovState where
  | normal
  | limiting
  | shedding
  | powerFail
  deriving DecidableEq, Repr

/-- What the Scanout Engine fixes at the wrap that begins a scanned frame (R46, R48, R50). -/
structure FrameFix where
  fs : W16
  start : W32
  p : Nat
  wEff : Nat
  clipped : Bool
  gov : GovState
  wLimit : Nat
  tpL : W32
  tpR : W32
  deriving DecidableEq, Repr

/-- Outcomes of a take (R31). -/
inductive TakeOutcome where
  | fresh
  | held
  | blank
  deriving DecidableEq, Repr

/-- The six flags of a shift reply (R79). -/
structure ShiftFlags where
  stale : Bool
  horizonClamped : Bool
  horizonPast : Bool
  xClipped : Bool
  yClipped : Bool
  noMotion : Bool
  deriving DecidableEq, Repr

/-- Every shift flag clear. -/
def ShiftFlags.clear : ShiftFlags :=
  { stale := false, horizonClamped := false, horizonPast := false, xClipped := false, yClipped := false,
    noMotion := false }

/-- One slice outcome entry (R51). -/
structure SliceEntry where
  eye : Eye
  index : Nat
  outcome : TakeOutcome
  /-- Frame tag used; absent for BLANK. -/
  tag : Option W16
  shiftX : Int
  shiftY : Int
  flags : ShiftFlags
  deriving DecidableEq, Repr

/-- The frame report under assembly: the counts of R53 and the outcome entries of each eye in take order. -/
structure Draft where
  superseded : Nat
  noCell : Nat
  sliceCrc : Nat
  malformed : Nat
  lost : Nat
  underrun : Nat
  entries : Eyes (List SliceEntry)
  deriving DecidableEq, Repr

/-- A report as it is begun: zero counts and an empty outcome list (R54). -/
def Draft.empty : Draft :=
  { superseded := 0, noCell := 0, sliceCrc := 0, malformed := 0, lost := 0, underrun := 0,
    entries := { l := [], r := [] } }

/-- A finished frame report (R54); `replaced` is its reports-replaced count (R55). -/
structure FrameReport where
  fix : FrameFix
  draft : Draft
  fill : Nat
  replaced : Nat
  deriving DecidableEq, Repr

/-- What the Scanout Engine writes to a panel in one slice window (R43, R44): the cells' contents as the take
fixed them, and the shift. -/
structure Band where
  index : Nat
  taken : Option (List Byte)
  above : Option (List Byte)
  below : Option (List Byte)
  shiftX : Int
  shiftY : Int
  deriving DecidableEq, Repr

/-- Scanout Engine. -/
structure Scn where
  mode : ScanState
  /-- Take schedule of each eye: the index of its next take, 16 when only the end request is left, none when no
  schedule runs (R41). -/
  sched : Eyes (Option Nat)
  frame : Option FrameFix
  report : Option Draft
  /-- The bands last written to each panel, slice index 0 first (R43). -/
  panel : Eyes (List (Option Band))
  deriving DecidableEq, Repr

/-! ## Motion Unit (chapters 4 and 5) -/

/-- Motion states (section 4.1). -/
inductive MotState where
  | off
  | starting
  | running
  | stalled
  | dozeWatch
  deriving DecidableEq, Repr

/-- Transactions on the SPI sensor bus (R61); `rateWatch` writes 100 Hz (R74), `rateRun` the output rate (R75). -/
inductive TxKind where
  | identityRead
  | configWrite
  | rateWatch
  | rateRun
  | powerDown
  | sampleRead
  deriving DecidableEq, Repr

/-- A transaction on the bus or waiting for it. -/
structure Tx where
  kind : TxKind
  /-- Microseconds left once it is on the bus. -/
  left : Nat
  /-- The Motion Unit is still in the state that wanted it (R61). -/
  wanted : Bool
  /-- Its completion answers the Mode Controller's order (R74, R75). -/
  answers : Bool
  /-- The rate that a configuration write or a rate write carries to the sensor, fixed when the write was wanted (R58,
  R74, R75); 0 for the other transactions. -/
  rate : Nat := 0
  deriving DecidableEq, Repr

/-- What the sensor last received from the part (R58, R74, R75). -/
inductive SensorSetting where
  /-- Nothing since the supply rose. -/
  | unset
  | configured (rate : Nat)
  | rate (hz : Nat)
  | poweredDown
  deriving DecidableEq, Repr

/-- A capture as the Motion Unit is told of it (R17). -/
structure Capture where
  tbc : W32
  overrun : Bool
  deriving DecidableEq, Repr

/-- A value for each sensor axis. -/
structure Axes (α : Type) where
  x : α
  y : α
  z : α
  deriving DecidableEq, Repr

/-- A value for each head angle. -/
structure Angles (α : Type) where
  yaw : α
  pitch : α
  roll : α
  deriving DecidableEq, Repr

/-- One entry of the history ring (R65). -/
structure RingEntry where
  seq : W16
  tbc : W32
  acc : Angles W32
  rate : Axes W16
  deriving DecidableEq, Repr

/-- One sample of a motion report (R67). -/
structure ReportSample where
  tbc : W32
  gyro : Axes W16
  accel : Axes W16
  clipped : Bool
  overrun : Bool
  intervalClamped : Bool
  deriving DecidableEq, Repr

/-- The motion report under assembly (R67). -/
structure MotionDraft where
  first : W16
  samples : List ReportSample
  deriving DecidableEq, Repr

/-- A completed motion report (R67, R69). -/
structure MotionReport where
  first : W16
  samples : List ReportSample
  acc : Angles W32
  dropped : Nat
  deriving DecidableEq, Repr

/-- The calibration context and the command it answers (R71, R72). -/
structure Calibration where
  tag : Byte
  clamped : Bool
  n : Nat
  stillness : Nat
  count : Nat
  sum : Axes Int
  least : Axes (Option Int)
  greatest : Axes (Option Int)
  deriving DecidableEq, Repr

/-- One wake filter (R76, R77); `axes` is its axis set, bits 0 to 2 gyro x, y, z and bits 3 to 5 accel x, y, z. -/
structure WakeFilter where
  enabled : Bool
  axes : Byte
  threshold : Nat
  runCount : Nat
  counter : Nat
  deriving DecidableEq, Repr

/-- The last-shift record of an eye once it is present (R91). -/
structure ShiftRecord where
  takeTbc : W32
  ref : W16
  target : W32
  /-- s_n and D. -/
  found : Option (W16 × Nat)
  /-- Horizon h used. -/
  horizon : Option Nat
  shiftX : Int
  shiftY : Int
  flags : ShiftFlags
  deriving DecidableEq, Repr

/-- Motion Unit. -/
structure Mot where
  state : MotState
  /-- Output rate, Hz. -/
  rate : Nat
  /-- Batch size B. -/
  batch : Nat
  expected : Option Byte
  lastIdentity : Option Byte
  /-- MOTION START in STARTING: its tag and whether B was clamped (R57). -/
  starting : Option (Byte × Bool)
  /-- The configuration write of this STARTING has completed (R58). -/
  configured : Bool
  /-- First-sample timer, microseconds left (R58). -/
  firstLeft : Option Nat
  /-- Stall timer, microseconds left (R66). -/
  stallLeft : Option Nat
  bus : Option Tx
  waiting : List Tx
  /-- The capture whose sample read is on the bus (R61). -/
  reading : Option Capture
  sensor : SensorSetting
  bias : Axes Int
  acc : Angles W32
  residue : Angles Nat
  /-- Previous sample TBC (R63). -/
  prevTbc : Option W32
  /-- Sample sequence number (R65). -/
  seq : W16
  /-- A sample has been integrated since the last reset (R60, R73). -/
  integrated : Bool
  /-- History ring, oldest entry first (R65). -/
  ring : List RingEntry
  draft : Option MotionDraft
  queue : List MotionReport
  cal : Option Calibration
  /-- Raw accelerometer values of the last integrated sample (R74 step 4). -/
  lastAccel : Option (Axes W16)
  /-- The filters' accelerometer reference (R74). -/
  accelRef : Option (Axes W16)
  filters : List WakeFilter
  lastShift : Eyes (Option ShiftRecord)
  deriving DecidableEq, Repr

/-! ## Audio Unit (chapter 6) -/

/-- Playout states (section 6.3). -/
inductive Playout where
  | stopped
  | priming
  | playing
  deriving DecidableEq, Repr

/-- One stereo frame, a pair of signed 16-bit samples. -/
structure Stereo where
  l : W16
  r : W16
  deriving DecidableEq, Repr

/-- The frame (0, 0). -/
def Stereo.zero : Stereo := { l := 0, r := 0 }

/-- One block of the playout queue; its count is the number of its samples (section 6.2). -/
structure AudioBlock where
  tag : W16
  samples : List Stereo
  consumed : Nat
  deriving DecidableEq, Repr

/-- A running ramp (R103). -/
structure Ramp where
  base : Stereo
  step : Nat
  deriving DecidableEq, Repr

/-- The microphone block under assembly (R109). -/
structure MicDraft where
  tbc : W32
  size : Nat
  samples : List W16
  deriving DecidableEq, Repr

/-- A completed microphone block (R109, R110). -/
structure MicBlock where
  seq : W16
  tbc : W32
  samples : List W16
  lostBefore : Nat
  deriving DecidableEq, Repr

/-- Audio Unit. -/
structure Aud where
  playout : Playout
  underrun : Bool
  queue : List AudioBlock
  lastFrame : Stereo
  ramp : Option Ramp
  powerFailHold : Bool
  gainL : Nat
  gainR : Nat
  prefill : Nat
  /-- Microphone block size B_m. -/
  blockSize : Nat
  /-- Cap read at the last output period (R112). -/
  cap : Nat
  micRunning : Bool
  micDraft : Option MicDraft
  blockSeq : W16
  uplink : List MicBlock
  /-- The frame the codec received in the last output period (R96). -/
  output : Stereo
  /-- The I2S frame clock against the microsecond: 48 is added each microsecond and 1,000 is one I2S frame (R96). -/
  i2sPhase : Nat
  /-- An output period is due. -/
  periodDue : Bool
  /-- Place of the last I2S frame in the cycle of three that gives one microphone sample (R109). -/
  micPhase : Nat
  /-- The microphone sample of the last I2S frame has not been taken yet. -/
  micDue : Bool
  deriving DecidableEq, Repr

/-! ## Supply Monitor and Power Governor (chapter 7) -/

/-- Kinds of round (section 7.3). -/
inductive RoundKind where
  | frame
  | oneShot
  | continuous
  deriving DecidableEq, Repr

/-- A converted value: input, value and TBC. -/
structure Reading where
  input : Nat
  value : Int
  tbc : W32
  deriving DecidableEq, Repr

/-- The round the converter is running, with the conversion in progress. -/
structure Round where
  kind : RoundKind
  /-- The input being converted. -/
  input : Nat
  first : Nat
  last : Nat
  /-- Microseconds left of the conversion (R115). -/
  left : Nat
  /-- The inputs the round has completed, in input order. -/
  done : List Reading
  deriving DecidableEq, Repr

/-- The waiting on-demand place (R117). -/
structure WaitingRound where
  kind : RoundKind
  first : Nat
  last : Nat
  deriving DecidableEq, Repr

/-- One result entry (section 7.2). -/
structure Entry where
  value : Int
  tbc : Option W32
  least : Option Int
  greatest : Option Int
  unreported : Bool
  overwritten : Bool
  deriving DecidableEq, Repr

/-- An entry after reset (R133). -/
def Entry.empty : Entry :=
  { value := 0, tbc := none, least := none, greatest := none, unreported := false, overwritten := false }

/-- One set watch limit (section 7.5). -/
structure Limit where
  value : Int
  armed : Bool
  deriving DecidableEq, Repr

/-- The two watch limits of an input. -/
structure WatchLimits where
  low : Option Limit
  high : Option Limit
  deriving DecidableEq, Repr

/-- One input carried in a monitor report (R122). -/
structure MonItem where
  input : Nat
  value : Int
  tbc : Option W32
  least : Option Int
  greatest : Option Int
  overwritten : Bool
  deriving DecidableEq, Repr

/-- A monitor report (R122). -/
structure MonReport where
  kind : RoundKind
  tbc : W32
  items : List MonItem
  deriving DecidableEq, Repr

/-- Supply Monitor. -/
structure Mon where
  /-- The round in progress; none is converter IDLE. -/
  round : Option Round
  pendingFrame : Bool
  waiting : Option WaitingRound
  series : Bool
  /-- Tag of the ROUND ONE_SHOT in flight (R119). -/
  oneShotTag : Option Byte
  entries : List Entry
  limits : List WatchLimits
  /-- Report mask, bit i for Mi. -/
  mask : Byte
  divider : Nat
  divCount : Nat
  deriving DecidableEq, Repr

/-- The evaluation record (R126). -/
structure Evaluation where
  tbc : W32
  vin : Nat
  iin : Nat
  skin : Int
  wLive : Nat
  aEff : Nat
  pIn : Nat
  pBl : Nat
  pBase : Nat
  budget : Int
  wLimit : Nat
  deriving DecidableEq, Repr

/-- Power Governor. -/
structure Gov where
  state : GovState
  wLimit : Nat
  cap : Nat
  recovery : Nat
  allowance : Nat
  rs : Nat
  vuv : Nat
  wFloor : Nat
  ts : Nat
  tLim : Nat
  evaluation : Option Evaluation
  deriving DecidableEq, Repr

/-! ## Mode Controller (chapter 8) -/

/-- Device states (section 8.1). -/
inductive Device where
  | standby
  | starting
  | run
  | stopping
  | dozeEntry
  | doze
  | waking
  deriving DecidableEq, Repr

/-- Panel power states (section 8.1). -/
inductive Panel where
  | off
  | powering
  | on
  | poweringDown
  deriving DecidableEq, Repr

/-- The state remembered across a doze (R141). -/
inductive Prior where
  | run
  | standby
  deriving DecidableEq, Repr

/-- Kinds of wake event (R143). -/
inductive WakeKind where
  | motionFilter
  | proximity
  | command
  deriving DecidableEq, Repr

/-- A valid wake source record; `filters` is 0 for a kind other than MOTION_FILTER (R143). -/
structure WakeRecord where
  kind : WakeKind
  filters : Byte
  tbc : W32
  deriving DecidableEq, Repr

/-- Causes of reset (R148). -/
inductive ResetCause where
  | powerOn
  | supplyDip
  | resetCommand
  | sidebandLoss
  deriving DecidableEq, Repr

/-- Mode Controller. -/
structure Mdc where
  device : Device
  panel : Panel
  /-- Microseconds left of POWERING or POWERING_DOWN. -/
  panelLeft : Nat
  prior : Option Prior
  /-- Strands of the transition in progress that have finished (R141, R144, R146). -/
  donePanels : Bool
  doneAudio : Bool
  doneMotion : Bool
  doneLane : Bool
  /-- Tag of the MODE command whose transition is in progress (R134). -/
  modeTag : Option Byte
  /-- The event that began the wake in progress (R144). -/
  wakeKind : Option WakeKind
  autoDoze : Bool
  /-- Off-head delay, seconds. -/
  delay : Nat
  /-- Proximity polarity ON_HIGH. -/
  onHigh : Bool
  /-- Input: the proximity line is high. -/
  proximityHigh : Bool
  /-- Off-head timer, microseconds elapsed; none while stopped (R145). -/
  offHead : Option Nat
  /-- Wake source record; none is not valid (R147). -/
  wakeRecord : Option WakeRecord
  resetCause : ResetCause
  /-- Input: the sideband line signal, read as present until an absence of 50 ms has run (R148, log entry 14). -/
  sidebandSignal : Bool
  /-- The signal has become present since the last reset (R148). -/
  sidebandSeen : Bool
  /-- Microseconds since the last reset or, if later, since the signal became present, up to 50,000 (R148). -/
  sidebandTime : Nat
  /-- The part is held in reset (R132). -/
  inReset : Bool
  deriving DecidableEq, Repr

/-! ## Sideband Message Port (chapter 9) -/

/-- Status codes (section 9.4), in the order of their codes. -/
inductive Status where
  | ok
  | okClamped
  | badLength
  | badValue
  | conflict
  | busy
  | wrongState
  | unknown
  | aborted
  | moved
  | fault
  | queueFull
  deriving DecidableEq, Repr

/-- One reply: the echoed code and tag, the status and the reply data of section 10.6. `clears` marks the reply of a
STATUS READ_CLEAR, whose last byte takes the pending subtraction (R160). -/
structure Reply where
  code : Byte
  tag : Byte
  status : Status
  data : List Byte
  clears : Bool
  deriving DecidableEq, Repr

/-- Causes carried by a MODE notice (section 10.4). -/
inductive ModeCause where
  | offHead
  | motionFilter
  | proximity
  deriving DecidableEq, Repr

/-- Notices (section 9.5). -/
inductive Notice where
  | laneIdle (resume : W32) (entry : W32)
  | wake (kind : WakeKind) (filters : Byte) (tbc : W32) (written : Bool)
  | mode (reached : Device) (left : Device) (cause : ModeCause) (tbc : W32)
  /-- `figure` is w_limit, or VIN on entry to POWER_FAIL. -/
  | governor (new : GovState) (left : GovState) (figure : Nat) (tbc : W32)
  | watch (input : Nat) (high : Bool) (value : Int) (tbc : W32)
  | motion (resumed : Bool) (tbc : W32) (seq : W16)
  deriving DecidableEq, Repr

/-- A record the arbiter has chosen (R158). -/
inductive Upstream where
  | reply (r : Reply)
  | notice (n : Notice)
  | motion (r : MotionReport)
  | audio (b : MicBlock)
  | frame (r : FrameReport)
  | monitor (r : MonReport)
  deriving DecidableEq, Repr

/-- The names of the status counters, in the order of the table of section 9.7. -/
inductive Counter where
  | badRecords
  | unheard
  | noticesLost
  | malformed
  | sliceCrc
  | audioCrc
  | lostToIdle
  | noCell
  | superseded
  | saturation
  | audioOverflow
  | audioStopped
  | underrun
  | roundsSkipped
  deriving DecidableEq, Repr

/-- The fourteen status counters (section 9.7). -/
structure Counters where
  badRecords : Nat
  unheard : Nat
  noticesLost : Nat
  malformed : Nat
  sliceCrc : Nat
  audioCrc : Nat
  lostToIdle : Nat
  noCell : Nat
  superseded : Nat
  saturation : Nat
  audioOverflow : Nat
  audioStopped : Nat
  underrun : Nat
  roundsSkipped : Nat
  deriving DecidableEq, Repr

/-- Every counter at 0 (R163). -/
def Counters.zero : Counters :=
  { badRecords := 0, unheard := 0, noticesLost := 0, malformed := 0, sliceCrc := 0, audioCrc := 0, lostToIdle := 0,
    noCell := 0, superseded := 0, saturation := 0, audioOverflow := 0, audioStopped := 0, underrun := 0,
    roundsSkipped := 0 }

/-- The command the interpreter has begun and the microseconds left to its execution (R154). -/
structure Begun where
  command : Instr
  left : Nat
  deriving DecidableEq, Repr

/-- Sideband Message Port. -/
structure Smp where
  /-- Inbound parser: the bytes held. They begin with the sync in RECEIVING; in HUNT there are none, or one that may
  be a first sync byte (R150). -/
  rx : List Byte
  /-- Microseconds since the last downstream byte, counted in RECEIVING (R150). -/
  rxIdle : Nat
  /-- Inbound command queue, oldest first (R153). -/
  inbound : List Instr
  interp : Option Begun
  /-- Number of RESERVED reply entries (R152). -/
  reserved : Nat
  /-- HELD reply entries, oldest made first (R152). -/
  held : List Reply
  notices : List Notice
  frameSlot : Option FrameReport
  monSlot : Option MonReport
  /-- The record being sent upstream (R158). -/
  sending : Option Upstream
  counters : Counters
  /-- Pending subtraction of a STATUS READ_CLEAR (R160). -/
  subtraction : Option Counters
  deriving DecidableEq, Repr

/-- The state of the part, and the queue of the commands that wait for `step`. -/
structure State where
  ftb : Ftb
  plr : Plr
  slm : Slm
  scn : Scn
  mot : Mot
  aud : Aud
  mon : Mon
  gov : Gov
  mdc : Mdc
  smp : Smp
  /-- The commands waiting for `step`, first in, first out. -/
  pending : List Instr
  deriving DecidableEq, Repr

/-! ## Values after reset -/

/-- R18. -/
def Ftb.reset : Ftb :=
  { tbc := 0, fc := 0, wrapDue := false, fs := 0, frameStart := 0, live := TimingSet.default,
    staged := TimingSet.default, marked2 := false, marked3 := false, marked4 := false, pulse := Eyes.both none,
    strobe := Eyes.both false, cut := false, syncActive := false, slot := none, overrun := false, armed := false,
    edgeRising := true }

/-- R39 and R149, with the line signal as the input finds it. -/
def Plr.reset (signal : Bool) : Plr :=
  { signal := signal, lane := if signal then .training else .down, trainLeft := if signal then 2000 else 0,
    waitLeft := 0, burst := .none, lastEnd := none, policy := false, dReq := 300, dMin := 800, tWait := 150,
    lastIdle := none, hold := false }

/-- R39. -/
def Slm.reset : Slm := { cells := List.replicate 40 none, up := Eyes.both none }

/-- R56. -/
def Scn.reset : Scn :=
  { mode := .stopped, sched := Eyes.both none, frame := none, report := none,
    panel := Eyes.both (List.replicate 16 none) }

/-- A wake filter after reset (R78). -/
def WakeFilter.reset : WakeFilter :=
  { enabled := false, axes := 0, threshold := 32767, runCount := 64, counter := 0 }

/-- R78 and R95. The sensor keeps what it last received. -/
def Mot.reset (sensor : SensorSetting) : Mot :=
  { state := .off, rate := 1000, batch := 4, expected := none, lastIdentity := none, starting := none,
    configured := false, firstLeft := none, stallLeft := none, bus := none, waiting := [], reading := none,
    sensor := sensor, bias := { x := 0, y := 0, z := 0 }, acc := { yaw := 0, pitch := 0, roll := 0 },
    residue := { yaw := 0, pitch := 0, roll := 0 }, prevTbc := none, seq := 0, integrated := false, ring := [],
    draft := none, queue := [], cal := none, lastAccel := none, accelRef := none,
    filters := List.replicate 4 WakeFilter.reset, lastShift := Eyes.both none }

/-- R114. The I2S clock and the phase of its microphone samples run on. -/
def Aud.reset (i2sPhase : Nat) (periodDue : Bool) (micPhase : Nat) (micDue : Bool) : Aud :=
  { playout := .stopped, underrun := false, queue := [], lastFrame := Stereo.zero, ramp := none,
    powerFailHold := false, gainL := 256, gainR := 256, prefill := 720, blockSize := 320, cap := 256,
    micRunning := false, micDraft := none, blockSeq := 0, uplink := [], output := Stereo.zero,
    i2sPhase := i2sPhase, periodDue := periodDue, micPhase := micPhase, micDue := micDue }

/-- R133. -/
def Mon.reset : Mon :=
  { round := none, pendingFrame := false, waiting := none, series := false, oneShotTag := none,
    entries := List.replicate 8 Entry.empty, limits := List.replicate 8 { low := none, high := none }, mask := 0xFF,
    divider := 0, divCount := 0 }

/-- R133. -/
def Gov.reset : Gov :=
  { state := .normal, wLimit := 0, cap := 256, recovery := 0, allowance := 4500, rs := 500, vuv := 8000,
    wFloor := 200, ts := 400, tLim := 430, evaluation := none }

/-- R149, with the two input lines as they stand, the wake source record to keep, the cause to record and whether
the part stays held in reset. The sideband signal counts as not seen since this reset, and the time for which it could
have been present or absent starts from 0 (R148, log entry 14). -/
def Mdc.reset (proximityHigh sidebandSignal : Bool) (wakeRecord : Option WakeRecord) (cause : ResetCause)
    (inReset : Bool) : Mdc :=
  { device := .standby, panel := .off, panelLeft := 0, prior := none, donePanels := false, doneAudio := false,
    doneMotion := false, doneLane := false, modeTag := none, wakeKind := none, autoDoze := false, delay := 30,
    onHigh := true, proximityHigh := proximityHigh, offHead := none, wakeRecord := wakeRecord, resetCause := cause,
    sidebandSignal := sidebandSignal, sidebandSeen := false, sidebandTime := 0, inReset := inReset }

/-- R163. -/
def Smp.reset : Smp :=
  { rx := [], rxIdle := 0, inbound := [], interp := none, reserved := 0, held := [], notices := [], frameSlot := none,
    monSlot := none, sending := none, counters := Counters.zero, subtraction := none }

/-- The part right after a power-on reset has been released: every block at its reset values, the cause POWER_ON
recorded, no command waiting. The levels of the input lines and the phase of the I2S clock at this moment, which the
manual does not give, are named in log entry 1. -/
def State.reset : State :=
  { ftb := Ftb.reset, plr := Plr.reset false, slm := Slm.reset, scn := Scn.reset, mot := Mot.reset .unset,
    aud := Aud.reset 0 false 0 false, mon := Mon.reset, gov := Gov.reset,
    mdc := Mdc.reset false false none .powerOn false, smp := Smp.reset, pending := [] }

/-! ## Updates of one block -/

/-- The state with another Frame Timebase. -/
def State.withFtb (s : State) (x : Ftb) : State := { s with ftb := x }
/-- The state with another Picture Lane Receiver. -/
def State.withPlr (s : State) (x : Plr) : State := { s with plr := x }
/-- The state with another Slice Memory. -/
def State.withSlm (s : State) (x : Slm) : State := { s with slm := x }
/-- The state with another Scanout Engine. -/
def State.withScn (s : State) (x : Scn) : State := { s with scn := x }
/-- The state with another Motion Unit. -/
def State.withMot (s : State) (x : Mot) : State := { s with mot := x }
/-- The state with another Audio Unit. -/
def State.withAud (s : State) (x : Aud) : State := { s with aud := x }
/-- The state with another Supply Monitor. -/
def State.withMon (s : State) (x : Mon) : State := { s with mon := x }
/-- The state with another Power Governor. -/
def State.withGov (s : State) (x : Gov) : State := { s with gov := x }
/-- The state with another Mode Controller. -/
def State.withMdc (s : State) (x : Mdc) : State := { s with mdc := x }
/-- The state with another Sideband Message Port. -/
def State.withSmp (s : State) (x : Smp) : State := { s with smp := x }
/-- The state with another queue of waiting commands. -/
def State.withPending (s : State) (q : List Instr) : State := { s with pending := q }

end Sys2Proof.Machine
end

