-- ==== Sys2Proof/Machine/Flags.lean ====
section
/-! DEFINITION. Every flag byte and code byte of chapter 10, and the tests that set the flags of a sample, a shift
and a pulse. -/

namespace Sys2Proof.Machine

/-- A byte from its bits, bit 0 first. -/
def packBits : List Bool → Byte
  | [] => 0
  | b :: bs => (packBits bs) <<< 1 ||| (if b then 1 else 0)

/-- A presence or yes/no byte: 0 or 1. -/
def boolByte (b : Bool) : Byte := if b then 1 else 0

/-! ## Code bytes -/

/-- Eye codes (section 10.2). -/
def Eye.code : Eye → Nat
  | .left => 0
  | .right => 1

/-- Device state codes (section 10.4). -/
def Device.code : Device → Byte
  | .standby => 0
  | .starting => 1
  | .run => 2
  | .stopping => 3
  | .dozeEntry => 4
  | .doze => 5
  | .waking => 6

/-- Governor state codes (section 10.3). -/
def GovState.code : GovState → Byte
  | .normal => 0
  | .limiting => 1
  | .shedding => 2
  | .powerFail => 3

/-- Scanning state codes (STROBE GET, section 10.6). -/
def ScanState.code : ScanState → Byte
  | .stopped => 0
  | .startPending => 1
  | .scanning => 2
  | .stopPending => 3

/-- Lane state codes (LANE GET, section 10.6). -/
def LaneState.code : LaneState → Byte
  | .down => 0
  | .training => 1
  | .active => 2
  | .idle => 3
  | .waking => 4

/-- Cell state codes (HOLD TABLE, section 10.6); 0 is FREE. -/
def Phase.code : Phase → Byte
  | .filling => 1
  | .ready => 2
  | .scanning => 3
  | .retained => 4
  | .draining => 5

/-- Take outcome codes (section 10.3). -/
def TakeOutcome.code : TakeOutcome → Nat
  | .fresh => 0
  | .held => 1
  | .blank => 2

/-- Motion state codes (MOTION GET, section 10.6). -/
def MotState.code : MotState → Byte
  | .off => 0
  | .starting => 1
  | .running => 2
  | .stalled => 3
  | .dozeWatch => 4

/-- Playout state codes (AUDIO GET, section 10.6). -/
def Playout.code : Playout → Byte
  | .stopped => 0
  | .priming => 1
  | .playing => 2

/-- Panel state codes (MODE GET, section 10.6). -/
def Panel.code : Panel → Byte
  | .off => 0
  | .powering => 1
  | .on => 2
  | .poweringDown => 3

/-- The device state a prior state names (MODE GET, section 10.6). -/
def Prior.device : Prior → Device
  | .run => .run
  | .standby => .standby

/-- Wake kind codes (section 10.4). -/
def WakeKind.code : WakeKind → Byte
  | .motionFilter => 0
  | .proximity => 1
  | .command => 2

/-- MODE notice cause codes (section 10.4). -/
def ModeCause.code : ModeCause → Byte
  | .offHead => 0
  | .motionFilter => 1
  | .proximity => 2

/-- Reset cause codes (IDENTIFY, section 10.6). -/
def ResetCause.code : ResetCause → Byte
  | .powerOn => 0
  | .supplyDip => 1
  | .resetCommand => 2
  | .sidebandLoss => 3

/-- Status codes (section 10.5). -/
def Status.code : Status → Byte
  | .ok => 0
  | .okClamped => 1
  | .badLength => 2
  | .badValue => 3
  | .conflict => 4
  | .busy => 5
  | .wrongState => 6
  | .unknown => 7
  | .aborted => 8
  | .moved => 9
  | .fault => 10
  | .queueFull => 11

/-- OK, or OK_CLAMPED where a value was brought into its range. -/
def okOr (clamped : Bool) : Status := if clamped then .okClamped else .ok

/-! ## Flag bytes -/

/-- Flags of a slice outcome entry (section 10.3). -/
def ShiftFlags.byte (f : ShiftFlags) : Byte :=
  packBits [f.stale, f.horizonClamped, f.horizonPast, f.xClipped, f.yClipped, f.noMotion]

/-- First byte of a slice outcome entry (section 10.3). -/
def SliceEntry.headByte (x : SliceEntry) : Byte :=
  BitVec.ofNat 8 (x.index % 16 + 16 * Eye.code x.eye + 32 * TakeOutcome.code x.outcome)

/-- Governor state and strobe clipped, offset 10 of the frame report (section 10.3). -/
def govByte (g : GovState) (clipped : Bool) : Byte := GovState.code g ||| (if clipped then 4 else 0)

/-- Form-and-flags byte of a motion report sample (section 10.3); `delta` is the form. -/
def ReportSample.headByte (x : ReportSample) (delta : Bool) : Byte :=
  packBits [x.clipped, x.overrun, x.intervalClamped, false, false, false, false, delta]

/-- Item flags of a monitor report (section 10.3). -/
def MonItem.flagByte (x : MonItem) : Byte := packBits [x.overwritten, x.tbc.isSome, x.least.isSome]

/-- Entry flags of MONITOR GET (section 10.6). -/
def Entry.flagByte (x : Entry) : Byte := packBits [x.overwritten, x.tbc.isSome, x.least.isSome, x.unreported]

/-- Limit flags of MONITOR GET (section 10.6). -/
def WatchLimits.flagByte (x : WatchLimits) : Byte :=
  packBits [x.low.isSome, x.low.any (·.armed), x.high.isSome, x.high.any (·.armed)]

/-- AUDIO GET flags (section 10.6). -/
def Aud.flagByte (a : Aud) : Byte :=
  packBits [a.underrun, a.ramp.isSome, a.powerFailHold, a.micRunning, !a.queue.isEmpty, a.micDraft.isSome]

/-! ## Flag computations -/

/-- Saturation of a biased rate to signed 16 bits, and whether it happened (R62). -/
def saturateRate (v : Int) : W16 × Bool :=
  if v < -32768 then (BitVec.ofInt 16 (-32768), true)
  else if 32767 < v then (BitVec.ofInt 16 32767, true)
  else (BitVec.ofInt 16 v, false)

/-- The interval brought into 100 … 4,000 µs, and the interval-clamped flag (R63). -/
def clampInterval (dt : Int) : Int × Bool :=
  if dt < 100 then (100, true) else if 4000 < dt then (4000, true) else (dt, false)

/-- A shift bounded by its limit, and its clipped flag (R87). -/
def clipShift (v : Int) (limit : Nat) : Int × Bool :=
  if (limit : Int) < v then ((limit : Int), true)
  else if v < -(limit : Int) then (-(limit : Int), true)
  else (v, false)

/-- One eye's pulse from its centre, the width and P: the ticks it is on and whether it is clipped (R12). -/
def pulseOf (c w p : Nat) : Option Pulse × Bool :=
  if w = 0 then (none, false)
  else if p ≤ w then (some { start := 0, stop := p }, p < w)
  else
    let a : Int := (c : Int) - ((w / 2 : Nat) : Int)
    let b : Int := a + (w : Int)
    (some { start := a.toNat, stop := min b.toNat p }, (p : Int) < b)

/-- The pulse is on at tick `t`. -/
def Pulse.covers (x : Pulse) (t : Nat) : Bool := x.start ≤ t && t < x.stop

end Sys2Proof.Machine
end

