-- ==== Sys2Proof/Machine/Formats.lean ====
section
/-! DEFINITION. The byte layouts of chapter 10: multi-byte fields, the two CRCs, reports, notices and the sideband
envelope. -/

namespace Sys2Proof.Machine

/-! ## Fields: least significant byte first (chapter 10, conventions) -/

/-- A 16-bit field. -/
def le16 (v : W16) : List Byte := [v.extractLsb' 0 8, v.extractLsb' 8 8]

/-- A 32-bit field. -/
def le32 (v : W32) : List Byte :=
  [v.extractLsb' 0 8, v.extractLsb' 8 8, v.extractLsb' 16 8, v.extractLsb' 24 8]

/-- A number sent as one byte. -/
def num8 (n : Nat) : List Byte := [BitVec.ofNat 8 n]

/-- A number sent in two bytes. -/
def num16 (n : Nat) : List Byte := le16 (BitVec.ofNat 16 n)

/-- A number sent in four bytes. -/
def num32 (n : Nat) : List Byte := le32 (BitVec.ofNat 32 n)

/-- A signed number sent as one byte. -/
def int8 (v : Int) : List Byte := [BitVec.ofInt 8 v]

/-- A signed number sent in two bytes. -/
def int16 (v : Int) : List Byte := le16 (BitVec.ofInt 16 v)

/-- A signed number sent in four bytes. -/
def int32 (v : Int) : List Byte := le32 (BitVec.ofInt 32 v)

/-- A TBC field, 0 when absent. -/
def tbcField (v : Option W32) : List Byte := le32 (v.getD 0)

/-- The 16-bit field at the front of a byte list; missing bytes read as 0. -/
def read16 (bs : List Byte) : W16 := bs.getD 1 0 ++ bs.getD 0 0

/-- The 32-bit field at the front of a byte list; missing bytes read as 0. -/
def read32 (bs : List Byte) : W32 := bs.getD 3 0 ++ bs.getD 2 0 ++ bs.getD 1 0 ++ bs.getD 0 0

/-! ## CRC-16 (R164) and CRC-32 (R165) -/

/-- One bit of the CRC-16, most significant bit first. -/
def crc16Shift (c : W16) : W16 := if c.msb then (c <<< 1) ^^^ 0x1021 else c <<< 1

/-- One byte of the CRC-16. -/
def crc16Byte (c : W16) (b : Byte) : W16 :=
  Nat.iterate crc16Shift 8 (c ^^^ (b.zeroExtend 16 <<< 8))

/-- The CRC-16 of R164: polynomial 0x1021, initial value 0xFFFF, not reflected, no final XOR. -/
def crc16 (bs : List Byte) : W16 := bs.foldl crc16Byte 0xFFFF

/-- One bit of the CRC-32, least significant bit first; 0xEDB88320 is 0x04C11DB7 reflected. -/
def crc32Shift (c : W32) : W32 := if c.getLsbD 0 then (c >>> 1) ^^^ 0xEDB88320 else c >>> 1

/-- One byte of the CRC-32. -/
def crc32Byte (c : W32) (b : Byte) : W32 := Nat.iterate crc32Shift 8 (c ^^^ b.zeroExtend 32)

/-- The CRC-32 of R165: polynomial 0x04C11DB7 reflected, initial value all ones, complemented at the end. -/
def crc32 (bs : List Byte) : W32 := ~~~ bs.foldl crc32Byte 0xFFFFFFFF

/-! ## Motion report (R67, R68, section 10.3) -/

/-- The six values of a sample in order: gyro x, y, z, then accelerometer x, y, z. -/
def ReportSample.values (x : ReportSample) : List W16 :=
  [x.gyro.x, x.gyro.y, x.gyro.z, x.accel.x, x.accel.y, x.accel.z]

/-- The differences of two samples' values, each formed exactly. -/
def valueDiffs (x prev : ReportSample) : List Int :=
  List.zipWith (fun a b => a.toInt - b.toInt) x.values prev.values

/-- A later sample is DELTA when every difference fits its field (R68). -/
def isDelta (x prev : ReportSample) : Bool :=
  let dt := (x.tbc - prev.tbc).toInt
  0 ≤ dt && dt ≤ 65535 && (valueDiffs x prev).all (fun d => -128 ≤ d && d ≤ 127)

/-- A sample in the form KEY. -/
def ReportSample.keyBytes (x : ReportSample) : List Byte :=
  [x.headByte false] ++ le32 x.tbc ++ x.values.flatMap le16

/-- A sample in the form DELTA against the sample before it. -/
def ReportSample.deltaBytes (x prev : ReportSample) : List Byte :=
  [x.headByte true] ++ int16 ((x.tbc - prev.tbc).toInt) ++ (valueDiffs x prev).flatMap int8

/-- The samples after the first, each in the form R68 gives it. -/
def laterSamples : ReportSample → List ReportSample → List Byte
  | _, [] => []
  | prev, x :: xs =>
    (if isDelta x prev then x.deltaBytes prev else x.keyBytes) ++ laterSamples x xs

/-- The samples of a report: the first is KEY (R68). -/
def sampleBytes : List ReportSample → List Byte
  | [] => []
  | x :: xs => x.keyBytes ++ laterSamples x xs

/-- Three angles, 4 bytes each. -/
def angleBytes (a : Angles W32) : List Byte := le32 a.yaw ++ le32 a.pitch ++ le32 a.roll

/-- Payload of a motion report. -/
def MotionReport.payload (r : MotionReport) : List Byte :=
  le16 r.first ++ num8 r.samples.length ++ num16 r.dropped ++ angleBytes r.acc ++ sampleBytes r.samples

/-- Payload of an uplink audio block. -/
def MicBlock.payload (b : MicBlock) : List Byte :=
  le16 b.seq ++ le32 b.tbc ++ num16 b.samples.length ++ num16 b.lostBefore ++ b.samples.flatMap le16

/-! ## Frame report (R52, R54, section 10.3) -/

/-- The outcome list in take order, L before R at each index (R52). -/
def interleave : List SliceEntry → List SliceEntry → List SliceEntry
  | [], ys => ys
  | x :: xs, [] => x :: xs
  | x :: xs, y :: ys => x :: y :: interleave xs ys

/-- The slice outcome list of a report. -/
def Draft.outcomes (d : Draft) : List SliceEntry := interleave d.entries.l d.entries.r

/-- The count of entries with an outcome (R52). -/
def countOutcome (o : TakeOutcome) (xs : List SliceEntry) : Nat := xs.countP (fun x => x.outcome = o)

/-- The greatest magnitude of a shift over the entries (R52). -/
def greatestShift (f : SliceEntry → Int) (xs : List SliceEntry) : Nat :=
  xs.foldl (fun m x => max m (f x).natAbs) 0

/-- One slice outcome entry. -/
def SliceEntry.bytes (x : SliceEntry) : List Byte :=
  [x.headByte, x.flags.byte] ++ le16 (x.tag.getD 0) ++ int16 x.shiftX ++ int8 x.shiftY

/-- Payload of a frame report. -/
def FrameReport.payload (r : FrameReport) : List Byte :=
  let xs := r.draft.outcomes
  le16 r.fix.fs ++ le32 r.fix.start ++ num16 r.fix.p ++ num16 r.fix.wEff ++ [govByte r.fix.gov r.fix.clipped] ++
    num8 (countOutcome .fresh xs) ++ num8 (countOutcome .held xs) ++ num8 (countOutcome .blank xs) ++
    num16 r.draft.superseded ++ num16 r.draft.noCell ++ num16 r.draft.sliceCrc ++ num16 r.draft.malformed ++
    num16 r.draft.lost ++ num16 r.draft.underrun ++ num16 r.fill ++ num8 (greatestShift (·.shiftX) xs) ++
    num8 (greatestShift (·.shiftY) xs) ++ num8 (xs.countP (·.flags.stale)) ++ num16 r.replaced ++
    xs.flatMap SliceEntry.bytes

/-! ## Monitor report (section 10.3) -/

/-- One item of a monitor report. -/
def MonItem.bytes (x : MonItem) : List Byte :=
  num8 x.input ++ [x.flagByte] ++ int16 x.value ++ tbcField x.tbc ++ int16 (x.least.getD 0) ++
    int16 (x.greatest.getD 0)

/-- Payload of a monitor report; the round kind is 0 FRAME or 1 CONTINUOUS. -/
def MonReport.payload (r : MonReport) : List Byte :=
  [if r.kind = .frame then 0 else 1] ++ le32 r.tbc ++
    [packBits ((List.range 8).map (fun i => r.items.any (fun x => x.input = i)))] ++
    r.items.flatMap MonItem.bytes

/-! ## Notices (section 10.4) -/

/-- Notice code. -/
def Notice.code : Notice → Byte
  | .laneIdle _ _ => 0x01
  | .wake _ _ _ _ => 0x02
  | .mode _ _ _ _ => 0x03
  | .governor _ _ _ _ => 0x04
  | .watch _ _ _ _ => 0x05
  | .motion _ _ _ => 0x06

/-- Notice payload. -/
def Notice.payload : Notice → List Byte
  | .laneIdle resume entry => le32 resume ++ le32 entry
  | .wake kind filters tbc written => [kind.code, filters] ++ le32 tbc ++ [boolByte written]
  | .mode reached left cause tbc => [reached.code, left.code, cause.code] ++ le32 tbc
  | .governor new left figure tbc => [new.code, left.code] ++ num16 figure ++ le32 tbc
  | .watch input high value tbc => num8 input ++ [boolByte high] ++ int16 value ++ le32 tbc
  | .motion resumed tbc seq => [boolByte resumed] ++ le32 tbc ++ le16 seq

/-! ## The sideband envelope (section 10.1) -/

/-- Kind, code, tag and payload of a record sent upstream: 2 REPLY, 3 REPORT, 4 NOTICE, and the tag 0 of a report
or a notice (section 9.1). -/
def Upstream.fields : Upstream → Byte × Byte × Byte × List Byte
  | .reply r => (2, r.code, r.tag, r.status.code :: r.data)
  | .motion r => (3, 0x01, 0, r.payload)
  | .audio b => (3, 0x02, 0, b.payload)
  | .frame r => (3, 0x03, 0, r.payload)
  | .monitor r => (3, 0x04, 0, r.payload)
  | .notice n => (4, n.code, 0, n.payload)

/-- The bytes of a record from its kind to its payload's end, over which the CRC-16 is computed (R164). -/
def recordBody (kind code tag : Byte) (payload : List Byte) : List Byte :=
  [kind, code, tag] ++ num16 payload.length ++ payload

/-- A whole record: sync, body and CRC-16, low byte first (R164). -/
def recordBytes (kind code tag : Byte) (payload : List Byte) : List Byte :=
  [0xC3, 0x3C] ++ recordBody kind code tag payload ++ le16 (crc16 (recordBody kind code tag payload))

/-- The bytes of a record sent upstream (R158). -/
def Upstream.bytes (u : Upstream) : List Byte :=
  let f := u.fields
  recordBytes f.1 f.2.1 f.2.2.1 f.2.2.2

end Sys2Proof.Machine
end

