-- ==== Sys2Proof/Machine/Ops.lean ====
section
/-! DEFINITION. The operations every family shares: exact arithmetic, the status counters, the frame report under
assembly, the notice queue, the reply entries and the upstream arbiter, and the two ways in which a command takes
effect. The block raises no exception (log entry 2). -/

namespace Sys2Proof.Machine

/-! ## Arithmetic (00_scope.md, section 6) -/

/-- A difference of two TBC values, taken modulo 2^32 and read as signed (R1). -/
def tbcDiff (a b : W32) : Int := (a - b).toInt

/-- n / d rounded to the nearest integer, ties away from zero. -/
def nearest (n : Int) (d : Nat) : Int :=
  if n < 0 then -(((2 * n.natAbs + d) / (2 * d) : Nat) : Int) else (((2 * n.natAbs + d) / (2 * d) : Nat) : Int)

/-- A sum saturating at 65,535. -/
def sat16 (a b : Nat) : Nat := min 65535 (a + b)

/-- A bounding value brought to the nearer end of its range (R156). -/
def clampTo (lo hi : Int) (v : Int) : Int := if v < lo then lo else if hi < v then hi else v

/-! ## Status counters (section 9.7) -/

/-- A status counter's value. -/
def Counters.get (c : Counters) : Counter → Nat
  | .badRecords => c.badRecords
  | .unheard => c.unheard
  | .noticesLost => c.noticesLost
  | .malformed => c.malformed
  | .sliceCrc => c.sliceCrc
  | .audioCrc => c.audioCrc
  | .lostToIdle => c.lostToIdle
  | .noCell => c.noCell
  | .superseded => c.superseded
  | .saturation => c.saturation
  | .audioOverflow => c.audioOverflow
  | .audioStopped => c.audioStopped
  | .underrun => c.underrun
  | .roundsSkipped => c.roundsSkipped

/-- The counters with one replaced. -/
def Counters.put (c : Counters) (k : Counter) (n : Nat) : Counters :=
  match k with
  | .badRecords => { c with badRecords := n }
  | .unheard => { c with unheard := n }
  | .noticesLost => { c with noticesLost := n }
  | .malformed => { c with malformed := n }
  | .sliceCrc => { c with sliceCrc := n }
  | .audioCrc => { c with audioCrc := n }
  | .lostToIdle => { c with lostToIdle := n }
  | .noCell => { c with noCell := n }
  | .superseded => { c with superseded := n }
  | .saturation => { c with saturation := n }
  | .audioOverflow => { c with audioOverflow := n }
  | .audioStopped => { c with audioStopped := n }
  | .underrun => { c with underrun := n }
  | .roundsSkipped => { c with roundsSkipped := n }

/-- The counters in the order of the table of section 9.7. -/
def Counter.all : List Counter :=
  [.badRecords, .unheard, .noticesLost, .malformed, .sliceCrc, .audioCrc, .lostToIdle, .noCell, .superseded,
    .saturation, .audioOverflow, .audioStopped, .underrun, .roundsSkipped]

/-- Add occurrences to a counter, which saturates at 65,535 (section 9.7). -/
def Counters.add (c : Counters) (k : Counter) (n : Nat) : Counters := c.put k (sat16 (c.get k) n)

/-- Subtract the reported values (R160). -/
def Counters.minus (c d : Counters) : Counters :=
  Counter.all.foldl (fun acc k => acc.put k (c.get k - d.get k)) c

/-- Count occurrences in a status counter. -/
def State.count (s : State) (k : Counter) (n : Nat) : State :=
  s.withSmp { s.smp with counters := s.smp.counters.add k n }

/-- The counts a frame report keeps (R53). -/
def Draft.add (d : Draft) (k : Counter) (n : Nat) : Draft :=
  match k with
  | .superseded => { d with superseded := sat16 d.superseded n }
  | .noCell => { d with noCell := sat16 d.noCell n }
  | .sliceCrc => { d with sliceCrc := sat16 d.sliceCrc n }
  | .malformed => { d with malformed := sat16 d.malformed n }
  | .lostToIdle => { d with lost := sat16 d.lost n }
  | .underrun => { d with underrun := sat16 d.underrun n }
  | _ => d

/-- Count an occurrence in its status counter and in the frame report under assembly (R25, R53). -/
def State.note (s : State) (k : Counter) : State :=
  let s := s.count k 1
  s.withScn { s.scn with report := s.scn.report.map (fun d => d.add k 1) }

/-! ## The upstream arbiter (R158) -/

/-- The arbiter's choice: with the lane free, the record of the highest-priority source that holds one leaves its
source and is being sent. -/
def State.arbitrate (s : State) : State :=
  if s.smp.sending.isSome then s
  else match s.smp.held with
    | r :: rs => s.withSmp { s.smp with held := rs, sending := some (.reply r) }
    | [] =>
      match s.smp.notices with
      | n :: ns => s.withSmp { s.smp with notices := ns, sending := some (.notice n) }
      | [] =>
        match s.mot.queue with
        | r :: rs => (s.withMot { s.mot with queue := rs }).withSmp { s.smp with sending := some (.motion r) }
        | [] =>
          match s.aud.uplink with
          | b :: bs => (s.withAud { s.aud with uplink := bs }).withSmp { s.smp with sending := some (.audio b) }
          | [] =>
            match s.smp.frameSlot with
            | some r => s.withSmp { s.smp with frameSlot := none, sending := some (.frame r) }
            | none =>
              match s.smp.monSlot with
              | some r => s.withSmp { s.smp with monSlot := none, sending := some (.monitor r) }
              | none => s

/-! ## Offers to the upstream sources -/

/-- A notice is offered: it joins a queue of fewer than 8, or is dropped and counted (R157). -/
def State.notify (s : State) (n : Notice) : State :=
  if s.smp.notices.length < 8 then (s.withSmp { s.smp with notices := s.smp.notices ++ [n] }).arbitrate
  else s.count .noticesLost 1

/-- A completed motion report is offered to its queue of 4 (R69). -/
def State.offerMotion (s : State) (r : MotionReport) : State :=
  let q : List MotionReport :=
    if s.mot.queue.length < 4 then s.mot.queue ++ [r]
    else match s.mot.queue with
      | [] => [r]
      | old :: rest => rest ++ [{ r with dropped := sat16 r.dropped (old.samples.length + old.dropped) }]
  (s.withMot { s.mot with queue := q }).arbitrate

/-- A completed microphone block is offered to the uplink queue of 6 (R110). -/
def State.offerMic (s : State) (b : MicBlock) : State :=
  let q : List MicBlock :=
    if s.aud.uplink.length < 6 then s.aud.uplink ++ [b]
    else match s.aud.uplink with
      | [] => [b]
      | old :: rest => rest ++ [{ b with lostBefore := sat16 b.lostBefore (old.samples.length + old.lostBefore) }]
  (s.withAud { s.aud with uplink := q }).arbitrate

/-- A frame report is offered to its slot and replaces an unsent one (R55). -/
def State.offerFrame (s : State) (r : FrameReport) : State :=
  let replaced := match s.smp.frameSlot with
    | none => 0
    | some old => sat16 old.replaced 1
  (s.withSmp { s.smp with frameSlot := some { r with replaced := replaced } }).arbitrate

/-- The smaller of two optional values, where an absent one gives way (R123). -/
def lesser : Option Int → Option Int → Option Int
  | none, y => y
  | x, none => x
  | some x, some y => some (min x y)

/-- The greater of two optional values, where an absent one gives way (R123). -/
def greater : Option Int → Option Int → Option Int
  | none, y => y
  | x, none => x
  | some x, some y => some (max x y)

/-- An item of a new monitor report merged with the same input of the report it replaces (R123). -/
def MonItem.merge (x : MonItem) (old : List MonItem) : MonItem :=
  match old.find? (fun y => y.input = x.input) with
  | none => x
  | some y =>
    { x with least := lesser x.least y.least, greatest := greater x.greatest y.greatest,
             overwritten := x.overwritten || x.tbc != y.tbc }

/-- A monitor report is offered to its slot and merged with an unsent one (R123). -/
def State.offerMonitor (s : State) (r : MonReport) : State :=
  let r := match s.smp.monSlot with
    | none => r
    | some old => { r with items := r.items.map (fun x => x.merge old.items) }
  (s.withSmp { s.smp with monSlot := some r }).arbitrate

/-! ## Replies (R152, R154) -/

/-- The code of a host command (section 10.5); 0 for a row that is not a host command. -/
def commandCode : Instr → Byte
  | .identify _ => 0x01
  | .statusRead _ => 0x02
  | .statusReadClear _ => 0x03
  | .reset _ => 0x04
  | .timingSet _ _ => 0x10
  | .timingGet _ => 0x11
  | .sync _ _ => 0x12
  | .strobeSet _ _ => 0x14
  | .strobeGet _ => 0x15
  | .shiftSet _ _ => 0x18
  | .shiftGet _ => 0x19
  | .shiftProbe _ _ _ => 0x1A
  | .holdSet _ _ => 0x1C
  | .holdTable _ => 0x1D
  | .laneSet _ _ => 0x20
  | .laneGet _ => 0x21
  | .modeRun _ _ => 0x22
  | .modeStandby _ => 0x22
  | .modeDoze _ => 0x22
  | .modeWake _ => 0x22
  | .modeAutodoze _ _ => 0x23
  | .modeGet _ => 0x24
  | .wakesourceRead _ => 0x25
  | .wakesourceClear _ => 0x26
  | .motionStart _ _ => 0x30
  | .motionStop _ => 0x31
  | .motionGet _ => 0x32
  | .biasSet _ _ => 0x33
  | .biasGet _ => 0x34
  | .calibrate _ _ => 0x35
  | .recentre _ _ => 0x36
  | .wakefilterSet _ _ => 0x37
  | .wakefilterGet _ => 0x38
  | .audioSet _ _ => 0x40
  | .audioPlayStart _ => 0x41
  | .audioPlayStop _ => 0x42
  | .micStart _ => 0x43
  | .micStop _ => 0x44
  | .audioGet _ => 0x45
  | .monitorSet _ _ => 0x50
  | .monitorStop _ => 0x51
  | .monitorGet _ => 0x52
  | .roundOneShot _ _ _ _ => 0x53
  | .roundContinuous _ _ _ => 0x53
  | .allowanceSet _ _ => 0x54
  | .allowanceGet _ => 0x55
  | .limitsSet _ _ => 0x56
  | .limitsGet _ => 0x57
  | _ => 0

/-- The number of FREE reply entries (R152). -/
def Smp.freeEntries (x : Smp) : Nat := 16 - x.reserved - x.held.length

/-- A reply is made in a RESERVED entry, which becomes HELD (R152, R154). -/
def State.makeReply (s : State) (r : Reply) : State :=
  (s.withSmp { s.smp with reserved := s.smp.reserved - 1, held := s.smp.held ++ [r] }).arbitrate

/-- The reply of a command with a code and a tag. -/
def State.replyTo (s : State) (code tag : Byte) (status : Status) (data : List Byte) : State :=
  s.makeReply { code := code, tag := tag, status := status, data := data, clears := false }

/-- An answer formed at reception is placed in a FREE entry, or the command is unheard (R151, R153). -/
def State.answerAtReception (s : State) (code tag : Byte) (status : Status) : State :=
  if s.smp.freeEntries = 0 then s.count .unheard 1
  else (s.withSmp { s.smp with held := s.smp.held ++
    [{ code := code, tag := tag, status := status, data := [], clears := false }] }).arbitrate

/-! ## How a command takes effect -/

/-- The interpreter holds this command and its 10 µs have run (R154). -/
def Smp.executes (x : Smp) (c : Instr) : Bool :=
  match x.interp with
  | none => false
  | some b => b.command = c && b.left = 0

/-- The execution event of a host command (R154). Where the interpreter holds the command it is free again and the
command's entry is RESERVED already. Otherwise the sender has put the execution into the queue itself (log entry 7):
a FREE entry is reserved for its reply first, and with none free the command is unheard (R153). -/
def State.claim (s : State) (c : Instr) : Option State :=
  if s.smp.executes c then some (s.withSmp { s.smp with interp := none })
  else if s.smp.freeEntries = 0 then none
  else some (s.withSmp { s.smp with reserved := s.smp.reserved + 1 })

/-- A host command is executed by its effect; a part held in reset executes nothing (R132). -/
def execute (c : Instr) (effect : State → State) (s : State) : Host.Outcome State Fault Refusal :=
  if s.mdc.inReset then .next s
  else match s.claim c with
    | some s' => .next (effect s')
    | none => .next (s.count .unheard 1)

/-- An event of the part takes its effect where it is due; elsewhere it does not occur and nothing changes (log entry
5). A part held in reset has no events (R132). -/
def occur (due : State → Bool) (effect : State → State) (s : State) : Host.Outcome State Fault Refusal :=
  .next (if !s.mdc.inReset && due s then effect s else s)

end Sys2Proof.Machine
end

