-- ==== Sys2Proof/Machine/Due.lean ====
section
/-! DEFINITION. When each event of the part is due: the conditions its rule sets on the clock, the timers and the
states. `exec` gives an event its effect only where it is due, and the schedule (Machine/Schedule.lean) takes the due
events that need no value from outside by itself. -/

namespace Sys2Proof.Machine

/-! ## The frame -/

/-- The frame tick of the current microsecond; P in the microsecond of a wrap that has not been taken. -/
def Ftb.pos (f : Ftb) : Nat := if f.wrapDue then f.fc + 1 else f.fc

/-- R2: the microsecond after FC = P − 1. -/
def State.wrapIsDue (s : State) : Bool := s.ftb.wrapDue

/-- A mark channel's live tick (R5, R11). -/
def Ftb.markTick (f : Ftb) : MarkChannel → Nat
  | .ec2 => f.live.s
  | .ec3 => f.live.monTick
  | .ec4 => f.live.w

/-- The channel has raised its mark in this frame. -/
def Ftb.marked (f : Ftb) : MarkChannel → Bool
  | .ec2 => f.marked2
  | .ec3 => f.marked3
  | .ec4 => f.marked4

/-- R11: FC equals the channel's live tick, and the frame's mark is not raised yet. -/
def State.markIsDue (ch : MarkChannel) (s : State) : Bool :=
  !s.ftb.wrapDue && !s.ftb.marked ch && s.ftb.fc = s.ftb.markTick ch

/-- The eye's pulse is on at this tick and not cut (R12, R14). -/
def Ftb.pulseOn (f : Ftb) (e : Eye) : Bool := !f.cut && (f.pulse.at e).any (fun x => x.covers f.fc)

/-- R12: FC has reached the start of the eye's pulse. -/
def State.strobeOnIsDue (e : Eye) (s : State) : Bool := !s.ftb.strobe.at e && s.ftb.pulseOn e

/-- R12: FC has reached the end of the eye's pulse. -/
def State.strobeOffIsDue (e : Eye) (s : State) : Bool := s.ftb.strobe.at e && !s.ftb.pulseOn e

/-- The sync pulse is on at this tick: from the live tick for the live width, clipped at the wrap (R15). -/
def Ftb.syncOn (f : Ftb) : Bool :=
  0 < f.live.syncWidth && f.live.syncTick ≤ f.fc && f.fc < min (f.live.syncTick + f.live.syncWidth) f.live.p

/-- R15: FC equals the live sync tick and the width is above 0. -/
def State.syncStartIsDue (s : State) : Bool := !s.ftb.syncActive && s.ftb.syncOn

/-- R15: the sync width has passed, or the wrap has clipped the pulse. -/
def State.syncEndIsDue (s : State) : Bool := s.ftb.syncActive && !s.ftb.syncOn

/-- R41: the take tick S + k·L of the eye's scheduled slice. -/
def State.takeIsDue (e : Eye) (k : Nat) (s : State) : Bool :=
  s.scn.sched.at e = some k && k < 16 && !s.ftb.wrapDue && s.ftb.fc = s.ftb.live.s + k * s.ftb.live.l

/-- R41: tick S + 16·L, with every take of the frame made. -/
def State.endRequestIsDue (s : State) : Bool :=
  s.scn.sched.l = some 16 && s.scn.sched.r = some 16 && s.ftb.pos = s.ftb.live.s + 16 * s.ftb.live.l

/-! ## The picture lane -/

/-- R19: 2 ms of training have passed without a lock. -/
def State.trainingTimeoutIsDue (s : State) : Bool := s.plr.lane = .training && s.plr.trainLeft = 0

/-- R21: T_wait has run. -/
def State.wakingEndIsDue (s : State) : Bool := s.plr.lane = .waking && s.plr.waitLeft = 0

/-- A cell is FILLING. -/
def Slm.fills (m : Slm) : Bool := m.cells.any (fun c => c.any (fun x => x.phase = .filling))

/-- The time to the next EC4 mark, (W − FC) mod P (R138). -/
def Ftb.toWakeMark (f : Ftb) : Nat := (f.live.w + (f.live.p - f.pos % f.live.p)) % f.live.p

/-- R138: all the lane-idle conditions hold. -/
def State.idleEntryIsDue (s : State) : Bool :=
  s.mdc.device = .run && s.plr.policy && s.plr.lane = .active && s.plr.burst = .none && !s.slm.fills &&
    s.plr.lastEnd.any (fun t => (s.plr.dReq : Int) ≤ tbcDiff s.ftb.tbc t) && s.plr.dMin ≤ s.ftb.toWakeMark

/-! ## The sensor -/

/-- A transaction of a kind has run its time on the bus (R61). -/
def Mot.busDone (m : Mot) (k : TxKind) : Bool := m.bus.any (fun t => t.kind = k && t.left = 0)

/-- R58: the first-sample timer has run. -/
def State.firstSampleTimeoutIsDue (s : State) : Bool := s.mot.state = .starting && s.mot.firstLeft = some 0

/-- R66: the stall timer has run. -/
def State.stallTimeoutIsDue (s : State) : Bool := s.mot.state = .running && s.mot.stallLeft = some 0

/-- R74, R75: a rate write of either kind has completed. -/
def State.rateWriteIsDue (s : State) : Bool := s.mot.busDone .rateWatch || s.mot.busDone .rateRun

/-! ## Converter, panels, off-head timer -/

/-- R115: the 50 µs of a conversion have run. -/
def State.conversionIsDue (s : State) : Bool := s.mon.round.any (fun r => r.left = 0)

/-- R135: 20 ms after the power-up. -/
def State.panelUpIsDue (s : State) : Bool := s.mdc.panel = .powering && s.mdc.panelLeft = 0

/-- R136: 5 ms after the power-down. -/
def State.panelDownIsDue (s : State) : Bool := s.mdc.panel = .poweringDown && s.mdc.panelLeft = 0

/-- R145: the elapsed time has reached the off-head delay as it stands. -/
def State.offHeadIsDue (s : State) : Bool := s.mdc.offHead.any (fun t => 1000000 * s.mdc.delay ≤ t)

/-! ## The sideband -/

/-- R150: 1,000 µs have passed with no byte while a record is incomplete. -/
def State.byteTimeoutIsDue (s : State) : Bool := 2 ≤ s.smp.rx.length && 1000 ≤ s.smp.rxIdle

/-- R154: the interpreter is free and the inbound queue is not empty. -/
def State.commandBeginIsDue (s : State) : Bool := s.smp.interp.isNone && !s.smp.inbound.isEmpty

end Sys2Proof.Machine
end

