-- ==== Sys2Proof/Machine/Clock.lean ====
section
/-! DEFINITION. One microsecond of the timebase clock TBC (R1), at every counter and timer of the part. The opcode
table has no row for it: it is what `step` does on an empty queue once every due event has been taken (log entry 8). -/

namespace Sys2Proof.Machine

/-- The Frame Timebase: TBC advances (R1); FC advances, and after P − 1 a wrap is due (R2). -/
def Ftb.tick (f : Ftb) : Ftb :=
  if f.fc + 1 < f.live.p then { f with tbc := f.tbc + 1, fc := f.fc + 1 }
  else { f with tbc := f.tbc + 1, wrapDue := true }

/-- The training interval (R19) and T_wait (R21) run. -/
def Plr.tick (p : Plr) : Plr := { p with trainLeft := p.trainLeft - 1, waitLeft := p.waitLeft - 1 }

/-- The age of a RETAINED cell, saturating (R28). -/
def Slice.tick (x : Slice) : Slice :=
  if x.phase = .retained then { x with age := min (x.age + 1) (2 ^ 32 - 1) } else x

/-- The ages of the RETAINED cells. -/
def Slm.tick (m : Slm) : Slm := { m with cells := m.cells.map (fun c => c.map Slice.tick) }

/-- The transaction on the sensor bus (R61), the first-sample timer (R58) and the stall timer (R66). -/
def Mot.tick (m : Mot) : Mot :=
  { m with bus := m.bus.map (fun t => { t with left := t.left - 1 }), firstLeft := m.firstLeft.map (· - 1),
           stallLeft := m.stallLeft.map (· - 1) }

/-- The I2S frame clock, 48 frames in 1,000 µs (R96); a microphone sample that was not taken in its microsecond is
gone. -/
def Aud.tick (a : Aud) : Aud :=
  if a.i2sPhase + 48 < 1000 then { a with i2sPhase := a.i2sPhase + 48, micDue := false }
  else { a with i2sPhase := a.i2sPhase + 48 - 1000, periodDue := true, micDue := false }

/-- The conversion in progress (R115). -/
def Mon.tick (m : Mon) : Mon := { m with round := m.round.map (fun r => { r with left := r.left - 1 }) }

/-- The panel power interval (section 8.1), the off-head timer (R145) and the sideband signal detector (R148). -/
def Mdc.tick (m : Mdc) : Mdc :=
  { m with panelLeft := m.panelLeft - 1, offHead := m.offHead.map (· + 1),
           sidebandTime := min (m.sidebandTime + 1) 50000 }

/-- The gap since the last downstream byte (R150) and the command begun (R154). -/
def Smp.tick (x : Smp) : Smp :=
  { x with rxIdle := if 2 ≤ x.rx.length then x.rxIdle + 1 else x.rxIdle,
           interp := x.interp.map (fun b => { b with left := b.left - 1 }) }

/-- One microsecond. While the part is held in reset only the I2S clock runs (R114, R132). -/
def State.tick (s : State) : State :=
  if s.mdc.inReset then s.withAud s.aud.tick
  else
    { s with ftb := s.ftb.tick, plr := s.plr.tick, slm := s.slm.tick, mot := s.mot.tick, aud := s.aud.tick,
             mon := s.mon.tick, mdc := s.mdc.tick, smp := s.smp.tick }

end Sys2Proof.Machine
end

