-- ==== Sys2Proof/Machine/Operands.lean ====
section
/-! DEFINITION. The operand forms of the commands: bounding fields and their clamps (R156), optional fields, the
staging transaction (R6, R7), and the headers of picture-lane bursts (R22, section 10.2). -/

namespace Sys2Proof.Machine

/-! ## Bounding fields -/

/-- An unsigned bounding field brought into its range. -/
def field (lo hi : Nat) (v : Nat) : Nat := if v < lo then lo else if hi < v then hi else v

/-- The field lies outside its range. -/
def outside (lo hi : Nat) (v : Nat) : Bool := v < lo || hi < v

/-- An optional 16-bit bounding field over the value it replaces. -/
def field16 (lo hi : Nat) (v : Option W16) (old : Nat) : Nat :=
  match v with
  | none => old
  | some x => field lo hi x.toNat

/-- An optional 16-bit field that was given and is brought into its range. -/
def clamped16 (lo hi : Nat) (v : Option W16) : Bool := v.any (fun x => outside lo hi x.toNat)

/-- An optional tick: ticks are never clamped (R7). -/
def tick16 (v : Option W16) (old : Nat) : Nat :=
  match v with
  | none => old
  | some x => x.toNat

/-- An optional enable code, 0 disabled and 1 enabled (section 10.5). -/
def switch (v : Option Byte) (old : Bool) : Bool :=
  match v with
  | none => old
  | some x => x = 1

/-- An optional selecting byte whose codes are 0 and 1 lies outside them (R156). -/
def badSwitch (v : Option Byte) : Bool := v.any (fun x => !(x = 0 || x = 1))

/-! ## The staging transaction -/

/-- The consistency of a staged set (R6). -/
def TimingSet.consistent (t : TimingSet) : Bool :=
  t.s + 16 * t.l ≤ t.p && t.s < t.p && t.monTick < t.p && t.w < t.p && t.syncTick < t.p && t.cL < t.p && t.cR < t.p

/-- The verdict of the staging transaction on a candidate set (R7): BAD_VALUE, then CONFLICT, then OK_CLAMPED or OK. -/
def stageVerdict (bad clamped : Bool) (candidate : TimingSet) : Status :=
  if bad then .badValue else if !candidate.consistent then .conflict else okOr clamped

/-- The staging transaction of a command (R7): the candidate becomes the staged set unless it is refused, and the
command is answered at once. -/
def State.stage (s : State) (c : Instr) (tag : Byte) (bad clamped : Bool) (candidate : TimingSet) : State :=
  let s' := if bad || !candidate.consistent then s else s.withFtb { s.ftb with staged := candidate }
  s'.replyTo (commandCode c) tag (stageVerdict bad clamped candidate) []

/-! ## Burst headers -/

/-- What the check of a burst's header finds (R22). -/
inductive Header where
  | malformed
  | slice (e : Eye) (index : Nat) (tag : W16) (ref : W16)
  | audio (tag : W16) (count : Nat)
  deriving DecidableEq, Repr

/-- The check of a SLICE header's fields: eye, index and payload length (R22). -/
def sliceHeader (h : List Byte) : Header :=
  let eye := h.getD 1 0
  let index := (h.getD 2 0).toNat
  if !(eye = 0 || eye = 1) || 15 < index || read32 (h.drop 7) ≠ 691200 then .malformed
  else .slice (if eye = 0 then .left else .right) index (read16 (h.drop 3)) (read16 (h.drop 5))

/-- The check of an AUDIO header's fields: count and payload length (R22). -/
def audioHeader (h : List Byte) : Header :=
  let count := (read16 (h.drop 3)).toNat
  if count = 0 || 1024 < count || (read32 (h.drop 5)).toNat ≠ 4 * count then .malformed
  else .audio (read16 (h.drop 1)) count

/-- The check of a burst's header bytes (R22, section 10.2). -/
def checkHeader (h : List Byte) : Header :=
  match h with
  | [] => .malformed
  | kind :: _ =>
    if kind = 1 then (if h.length < 11 then .malformed else sliceHeader h)
    else if kind = 2 then (if h.length < 9 then .malformed else audioHeader h)
    else .malformed

/-- The sample frames of an AUDIO payload, L before R (R165). -/
def stereoFrames : List Byte → List Stereo
  | a :: b :: c :: d :: rest => { l := b ++ a, r := d ++ c } :: stereoFrames rest
  | _ => []

/-- The payload check of R23: the length, and then the CRC-32 against the four bytes after the stated payload length,
read low byte first (R165). -/
def payloadGood (stated : Nat) (payload crc : List Byte) : Bool :=
  payload.length = stated && crc.length = 4 && read32 crc = crc32 payload

end Sys2Proof.Machine
end

