-- ==== Sys2Proof/Machine/Memory.lean ====
section
/-! DEFINITION. Slice Memory (sections 2.3 to 2.6): allocation and reclaim, filling, takes, neighbours, the end of a
slice window, and the HOLD command. -/

namespace Sys2Proof.Machine

/-! ## Looking through the table -/

/-- The cell holds a slice in a phase for an eye and index. -/
def holds (ph : Phase) (e : Eye) (k : Nat) (c : Option Slice) : Bool :=
  c.any (fun x => x.phase = ph && x.eye = e && x.index = k)

/-- The number of the cell READY for an eye and index (R30: at most one). -/
def Slm.readyCell (m : Slm) (e : Eye) (k : Nat) : Option Nat := m.cells.findIdx? (holds .ready e k)

/-- The slice in a numbered cell, none when the cell is FREE. -/
def Slm.slice (m : Slm) (i : Nat) : Option Slice := (m.cells[i]?).join

/-- The number of the lowest-numbered FREE cell (R27). -/
def Slm.freeCell (m : Slm) : Option Nat := m.cells.findIdx? (fun c => c.isNone)

/-- The best of the cells a test admits, going up the cell numbers: a later cell is taken over an earlier one where
`better` says so of their ages. -/
def bestCell (admits : Slice → Bool) (better : Nat → Nat → Bool) (cells : List (Option Slice)) : Option (Nat × Nat) :=
  cells.zipIdx.foldl
    (fun best ci =>
      match ci.1 with
      | none => best
      | some x =>
        if admits x then
          match best with
          | none => some (ci.2, x.age)
          | some b => if better x.age b.2 then some (ci.2, x.age) else best
        else best)
    none

/-- The oldest RETAINED cell that is not pinned; among equal ages the lowest-numbered (R27, R28). -/
def Slm.oldest (m : Slm) : Option Nat :=
  (bestCell (fun x => x.phase = .retained && !x.pinned) (fun a b => b < a) m.cells).map (·.1)

/-- The newest RETAINED cell for an eye and index; among equal ages the highest-numbered (R28, R31). -/
def Slm.newest (m : Slm) (e : Eye) (k : Nat) : Option Nat :=
  (bestCell (fun x => x.phase = .retained && x.eye = e && x.index = k) (fun a b => a ≤ b) m.cells).map (·.1)

/-- The table with one cell replaced. -/
def Slm.setCell (m : Slm) (i : Nat) (c : Option Slice) : Slm := { m with cells := m.cells.set i c }

/-- The table with the slice of a cell changed. -/
def Slm.updateCell (m : Slm) (i : Nat) (f : Slice → Slice) : Slm := m.setCell i ((m.slice i).map f)

/-! ## Allocation (R27) -/

/-- The record of a newly allocated cell. -/
def Slice.filling (e : Eye) (k : Nat) (tag ref : W16) : Slice :=
  { phase := .filling, eye := e, index := k, tag := tag, ref := ref, arrival := none, scanEnd := none, hold := 0,
    pinned := false, age := 0, content := [] }

/-- A reclaimed cell is no longer the up-neighbour candidate of an eye (R27). -/
def Slm.forget (m : Slm) (i : Nat) : Slm :=
  { m with up := { l := if m.up.l = some i then none else m.up.l, r := if m.up.r = some i then none else m.up.r } }

/-- An allocation request: the cell chosen and the table with it FILLING, or none when the header is refused. -/
def Slm.allocate (m : Slm) (e : Eye) (k : Nat) (tag ref : W16) : Option (Nat × Slm) :=
  match m.freeCell with
  | some i => some (i, m.setCell i (some (Slice.filling e k tag ref)))
  | none =>
    match m.oldest with
    | some i => some (i, (m.forget i).setCell i (some (Slice.filling e k tag ref)))
    | none => none

/-! ## The end of a fill (R29, R30) -/

/-- A READY slice superseded: FREE, or DRAINING while it is pinned. -/
def Slice.supersede (x : Slice) : Option Slice := if x.pinned then some { x with phase := .draining } else none

/-- A fill completion of cell i at a TBC with its payload: the table, and whether an older READY cell was superseded. -/
def Slm.complete (m : Slm) (i : Nat) (tbc : W32) (content : List Byte) : Slm × Bool :=
  match m.slice i with
  | none => (m, false)
  | some x =>
    let fresh : Slice := { x with phase := .ready, arrival := some tbc, content := content }
    match m.readyCell x.eye x.index with
    | none => (m.setCell i (some fresh), false)
    | some j => ((m.setCell j ((m.slice j).bind Slice.supersede)).setCell i (some fresh), true)

/-- A broken fill: the cell is FREE and its record discarded. -/
def Slm.breakFill (m : Slm) (i : Nat) : Slm := m.setCell i none

/-! ## The end of a slice window (R35) -/

/-- A cell of the eye at the end of its window: SCANNING becomes RETAINED, and the pin is released. -/
def Slice.endWindow (x : Slice) (tbc : W32) : Option Slice :=
  let y : Slice := if x.phase = .scanning then { x with phase := .retained, scanEnd := some tbc, age := 0 } else x
  if y.pinned then (if y.phase = .draining then none else some { y with pinned := false }) else some y

/-- The end of the current window of an eye. -/
def Slm.endWindow (m : Slm) (e : Eye) (tbc : W32) : Slm :=
  let scanned := m.cells.findIdx? (fun c => c.any (fun x => x.phase = .scanning && x.eye = e))
  { cells := m.cells.map (fun c => c.bind (fun x => if x.eye = e then x.endWindow tbc else some x)),
    up := m.up.put e scanned }

/-! ## Takes (R31) -/

/-- The outcome of a take for an eye and index under a hold limit, and the cell taken. -/
def Slm.resolve (m : Slm) (e : Eye) (k hold : Nat) : TakeOutcome × Option Nat :=
  match m.readyCell e k with
  | some i => (.fresh, some i)
  | none =>
    match m.newest e k with
    | none => (.blank, none)
    | some i => if (m.slice i).any (fun x => x.hold < hold) then (.held, some i) else (.blank, none)

/-- The change of the cell taken (R31). -/
def Slice.taken (o : TakeOutcome) (x : Slice) : Slice :=
  { x with phase := .scanning, hold := if o = .held then x.hold + 1 else x.hold }

/-- A take request: the window before it is ended first (R35), the take of slice 0 ends none and clears the
candidate, and the take is resolved. -/
def Slm.takeRequest (m : Slm) (e : Eye) (k hold : Nat) (tbc : W32) : TakeOutcome × Option Nat × Slm :=
  let m := if k = 0 then { m with up := m.up.put e none } else m.endWindow e tbc
  let r := m.resolve e k hold
  match r.2 with
  | none => (r.1, none, m)
  | some i => (r.1, some i, m.updateCell i (Slice.taken r.1))

/-! ## Neighbours (R33) -/

/-- The up-neighbour of a take of slice k with frame tag f. -/
def Slm.upNeighbour (m : Slm) (e : Eye) (k : Nat) (f : W16) : Option Nat :=
  if k = 0 then none
  else match m.up.at e with
    | none => none
    | some i => if (m.slice i).any (fun x => x.phase = .retained && x.tag = f) then some i else none

/-- The down-neighbour of a take of slice k with frame tag f. -/
def Slm.downNeighbour (m : Slm) (e : Eye) (k : Nat) (f : W16) : Option Nat :=
  if 15 ≤ k then none
  else match m.readyCell e (k + 1) with
    | none => none
    | some i => if (m.slice i).any (fun x => x.tag = f) then some i else none

/-- A neighbour found is pinned. -/
def Slm.pin (m : Slm) (i : Option Nat) : Slm :=
  match i with
  | none => m
  | some i => m.updateCell i (fun x => { x with pinned := true })

/-- The content of a numbered cell. -/
def Slm.content (m : Slm) (i : Option Nat) : Option (List Byte) := (i.bind m.slice).map (·.content)

/-! ## The HOLD command -/

/-- HOLD SET (R37). -/
def execHoldSet (tag : Byte) (hold : Byte) (s : State) : Host.Outcome State Fault Refusal :=
  execute (.holdSet tag hold) (fun s => s.stage (.holdSet tag hold) tag false (outside 0 15 hold.toNat)
    { s.ftb.staged with hold := field 0 15 hold.toNat }) s

/-- One cell item of the HOLD TABLE reply (section 10.6). -/
def cellItem (number : Nat) : Option Slice → List Byte
  | none => num8 number ++ List.replicate 18 0
  | some x =>
    num8 number ++ [x.phase.code, packBits [x.arrival.isSome, x.scanEnd.isSome]] ++ num8 (Eye.code x.eye) ++
      num8 x.index ++ le16 x.tag ++ le16 x.ref ++ num8 x.hold ++ [boolByte x.pinned] ++ tbcField x.arrival ++
      tbcField x.scanEnd

/-- Data of the HOLD TABLE reply (R38). -/
def State.holdData (s : State) : List Byte :=
  le32 s.ftb.tbc ++ s.slm.cells.zipIdx.flatMap (fun ci => cellItem ci.2 ci.1)

/-- HOLD TABLE (R38). -/
def execHoldTable (tag : Byte) (s : State) : Host.Outcome State Fault Refusal :=
  execute (.holdTable tag) (fun s => s.replyTo 0x1D tag .ok s.holdData) s

end Sys2Proof.Machine
end

