-- ==== Sys2Proof/Machine/Orders.lean ====
section
/-! DEFINITION. What one block asks of another: the Mode Controller's orders and the answers to them, the lane's
changes of state, the sensor bus, the endings of motion work, the audio stops, and the resets. -/

namespace Sys2Proof.Machine

/-! ## Mode Controller: replies and the off-head timer -/

/-- The device states in which work that needs the sensor at speed, the converter for the host or the audio paths is
refused (section 8.1). -/
def Mdc.dozing (m : Mdc) : Bool := m.device = .dozeEntry || m.device = .doze || m.device = .waking

/-- The proximity line reads on-head under the polarity (R145). -/
def Mdc.onHead (m : Mdc) : Bool := m.proximityHigh == m.onHigh

/-- The three conditions under which the off-head timer runs (R145). -/
def Mdc.offHeadRuns (m : Mdc) : Bool := m.device = .run && m.autoDoze && !m.onHead

/-- The off-head timer starts from 0, runs on, or stops, as its conditions now stand (R145). -/
def State.refreshOffHead (s : State) : State :=
  s.withMdc { s.mdc with offHead := if s.mdc.offHeadRuns then some (s.mdc.offHead.getD 0) else none }

/-- Data of a MODE reply: state reached, and FS and frame start TBC for an accepted MODE RUN (section 10.6). -/
def State.modeData (s : State) (withFrame : Bool) : List Byte :=
  [s.mdc.device.code, boolByte withFrame] ++
    (if withFrame then le16 s.ftb.fs ++ le32 s.ftb.frameStart else le16 0 ++ le32 0)

/-- The deferred MODE command is replied OK with the state reached (R134). -/
def State.answerMode (s : State) (tag : Byte) (withFrame : Bool) : State :=
  (s.withMdc { s.mdc with modeTag := none }).replyTo 0x22 tag .ok (s.modeData withFrame)

/-- The end of DOZE_ENTRY, once its last strand has finished (R141). -/
def State.finishDoze (s : State) : State :=
  if s.mdc.device = .dozeEntry && s.mdc.donePanels && s.mdc.doneAudio && s.mdc.doneMotion && s.mdc.doneLane then
    let s := s.withMdc { s.mdc with device := .doze }
    match s.mdc.modeTag with
    | some tag => s.answerMode tag false
    | none => s.notify (.mode .doze .dozeEntry .offHead s.ftb.tbc)
  else s

/-- The cause a MODE notice gives for a wake; a wake begun by MODE WAKE is replied instead (R144). -/
def WakeKind.cause : WakeKind → Option ModeCause
  | .motionFilter => some .motionFilter
  | .proximity => some .proximity
  | .command => none

/-- The end of WAKING, once the lane and the Motion Unit have answered and, for a prior state of RUN, scanning has
begun (R144). -/
def State.finishWaking (s : State) : State :=
  if s.mdc.device = .waking && s.mdc.donePanels && s.mdc.doneMotion && s.mdc.doneLane then
    let kind := s.mdc.wakeKind
    let s := s.withMdc { s.mdc with
      device := (s.mdc.prior.getD .standby).device, prior := none, wakeKind := none }
    let s := match s.mdc.modeTag, kind.bind WakeKind.cause with
      | some tag, _ => s.answerMode tag false
      | none, some cause => s.notify (.mode s.mdc.device .waking cause s.ftb.tbc)
      | none, none => s
    s.refreshOffHead
  else s

/-- The Motion Unit answers the Mode Controller's order (R74, R75). -/
def State.motionAnswer (s : State) : State :=
  (s.withMdc { s.mdc with doneMotion := true }).finishDoze.finishWaking

/-! ## Picture lane -/

/-- PLR answers: a doze-entry order once its lane is not ACTIVE (R142), the lifting of the hold once its lane is
neither IDLE nor WAKING (R144). -/
def State.laneAnswer (s : State) : State :=
  if s.mdc.device = .dozeEntry && !s.mdc.doneLane && s.plr.lane ≠ .active then
    (s.withMdc { s.mdc with doneLane := true }).finishDoze
  else if s.mdc.device = .waking && !s.mdc.doneLane && s.plr.lane ≠ .idle && s.plr.lane ≠ .waking then
    (s.withMdc { s.mdc with doneLane := true }).finishWaking
  else s

/-- The hold takes an ACTIVE lane with no burst in progress to IDLE (R142). -/
def Plr.underHold (p : Plr) : Plr :=
  if p.hold && p.lane = .active && p.burst = .none then { p with lane := .idle } else p

/-- The lane becomes ACTIVE: the last-burst-end TBC is set (R137), and the hold is obeyed (R142). -/
def State.laneActive (s : State) : State :=
  (s.withPlr ({ s.plr with lane := .active, trainLeft := 0, waitLeft := 0, lastEnd := some s.ftb.tbc } : Plr).underHold).laneAnswer

/-- An IDLE lane goes WAKING for T_wait (R21, R139). -/
def Plr.wake (p : Plr) : Plr := { p with lane := .waking, waitLeft := p.tWait }

/-! ## Sensor bus (R61) -/

/-- How long a transaction takes, µs (R61). -/
def TxKind.duration : TxKind → Nat
  | .identityRead => 20
  | .configWrite => 100
  | .rateWatch => 100
  | .rateRun => 100
  | .powerDown => 20
  | .sampleRead => 24

/-- The rate a transaction writes to the sensor: the recorded output rate in the configuration write (R58) and at a
wake (R75), and 100 Hz at doze entry (R74). -/
def TxKind.writes (k : TxKind) (output : Nat) : Nat :=
  match k with
  | .configWrite | .rateRun => output
  | .rateWatch => 100
  | .identityRead | .powerDown | .sampleRead => 0

/-- A wanted transaction goes on the free bus, or waits in the order in which it was wanted (R61). -/
def Mot.want (m : Mot) (k : TxKind) (answers : Bool) : Mot :=
  let t : Tx := { kind := k, left := k.duration, wanted := true, answers := answers, rate := k.writes m.rate }
  if m.bus.isNone then { m with bus := some t } else { m with waiting := m.waiting ++ [t] }

/-- The bus is free, and the transaction wanted first starts in the same event (R61). -/
def Mot.busNext (m : Mot) : Mot :=
  match m.waiting with
  | [] => { m with bus := none }
  | t :: ts => { m with bus := some t, waiting := ts }

/-- The Motion Unit leaves the state that wanted its transactions (R61). -/
def Mot.orphan (m : Mot) : Mot :=
  { m with bus := m.bus.map (fun t => { t with wanted := false }),
           waiting := m.waiting.map (fun t => { t with wanted := false }) }

/-- A sample read in progress is abandoned: the bus is free and the capture slot is released (R59, R61, R74). -/
def State.abandonRead (s : State) : State :=
  if s.mot.bus.any (fun t => t.kind = .sampleRead) then
    (s.withMot { s.mot.busNext with reading := none }).withFtb { s.ftb with slot := none }
  else s

/-- EC5 is disarmed: the capture slot is emptied and the overrun indicator cleared (R16). -/
def Ftb.disarm (f : Ftb) : Ftb := { f with armed := false, slot := none, overrun := false }

/-! ## Endings of motion work -/

/-- The report under assembly is completed early, if it holds at least one sample (R67). -/
def State.completeDraft (s : State) : State :=
  match s.mot.draft with
  | none => s
  | some d =>
    let s := s.withMot { s.mot with draft := none }
    if d.samples.isEmpty then s
    else s.offerMotion { first := d.first, samples := d.samples, acc := s.mot.acc, dropped := 0 }

/-- A calibration in flight is replied ABORTED with the sample count reached (R72). -/
def State.abortCalibration (s : State) : State :=
  match s.mot.cal with
  | none => s
  | some c => (s.withMot { s.mot with cal := none }).replyTo 0x35 c.tag .aborted (num16 c.count)

/-- A MOTION START in STARTING is replied ABORTED (R59, R74). -/
def State.abortStart (s : State) : State :=
  match s.mot.starting with
  | none => s
  | some (tag, _) => (s.withMot { s.mot with starting := none }).replyTo 0x30 tag .aborted []

/-- The run counters are cleared (R59, R74). -/
def Mot.clearRuns (m : Mot) : Mot := { m with filters := m.filters.map (fun f => { f with counter := 0 }) }

/-- MOT returns to OFF: timers stopped, EC5 disarmed, the power-down setting written (R58, R59, R74). -/
def State.motionOff (s : State) (answers : Bool) : State :=
  let m := s.mot.orphan.want .powerDown answers
  (s.withMot { m with state := .off, configured := false, firstLeft := none, stallLeft := none }).withFtb s.ftb.disarm

/-- The doze-entry order at the Motion Unit (R74). DESIGN CHOICE, log entry 32: in STARTING a first-sample read that is
on the bus is abandoned, as R74 has it for RUNNING and STALLED, so that the power-down write starts at once. -/
def State.motionDoze (s : State) : State :=
  match s.mot.state with
  | .off => s.motionAnswer
  | .dozeWatch => s.motionAnswer
  | .starting => (s.abortStart.abandonRead).motionOff true
  | .running | .stalled =>
    let s := s.abandonRead.completeDraft.abortCalibration
    let m := s.mot.clearRuns
    let ref := match s.mot.lastAccel with
      | some a => some a
      | none => s.mot.accelRef
    let m : Mot := { m with accelRef := ref, ring := [], prevTbc := none, stallLeft := none }
    s.withMot (m.want .rateWatch true)

/-- The wake order at the Motion Unit (R75). -/
def State.motionWake (s : State) : State :=
  match s.mot.state with
  | .dozeWatch => s.withMot (s.mot.want .rateRun true)
  | _ => s.motionAnswer

/-! ## Audio stops -/

/-- A ramp starts from the last frame played, unless one is running (R103). -/
def Aud.startRamp (a : Aud) : Aud :=
  match a.ramp with
  | some _ => a
  | none => { a with ramp := some { base := a.lastFrame, step := 1 } }

/-- What AUDIO PLAY_STOP does (R104). -/
def Aud.playStop (a : Aud) : Aud :=
  if a.playout = .stopped then a
  else ({ a with queue := [], underrun := false, playout := .stopped } : Aud).startRamp

/-- What MIC_STOP does (R108). -/
def Aud.micStop (a : Aud) : Aud := { a with micRunning := false, micDraft := none }

/-! ## Scanout requests and panel power -/

/-- The start request (R40). -/
def Scn.startRequest (x : Scn) : Scn := if x.mode = .stopped then { x with mode := .startPending } else x

/-- The stop request (R40). -/
def Scn.stopRequest (x : Scn) : Scn := if x.mode = .scanning then { x with mode := .stopPending } else x

/-- A power-up of the panels (section 8.1). -/
def Mdc.powerUp (m : Mdc) : Mdc := { m with panel := .powering, panelLeft := 20000 }

/-- A power-down of the panels (section 8.1). -/
def Mdc.powerDown (m : Mdc) : Mdc := { m with panel := .poweringDown, panelLeft := 5000 }

/-- The strands of a transition, none finished. -/
def Mdc.newStrands (m : Mdc) : Mdc :=
  { m with donePanels := false, doneAudio := false, doneMotion := false, doneLane := false }

/-! ## Doze entry and wake -/

/-- The entry event of DOZE_ENTRY (R141). -/
def State.enterDoze (s : State) : State :=
  let fromRun := decide (s.mdc.device = .run)
  let m := s.mdc.newStrands
  let s := s.withMdc { m with
    device := .dozeEntry, prior := some (if fromRun then .run else .standby), offHead := none, donePanels := !fromRun }
  let s := if fromRun then s.withScn s.scn.stopRequest else s
  let s := s.withAud s.aud.playStop.micStop
  let s := (s.withMdc { s.mdc with doneAudio := true }).finishDoze
  let s := s.motionDoze
  (s.withPlr ({ s.plr with hold := true } : Plr).underHold).laneAnswer

/-- The expiry of the off-head timer: a MODE notice for DOZE_ENTRY, and the entry event (R141, R145). -/
def State.offHeadExpires (s : State) : State :=
  (s.notify (.mode .dozeEntry s.mdc.device .offHead s.ftb.tbc)).enterDoze

/-- A wake event taken in DOZE begins the wake (R143, R144). -/
def State.beginWake (s : State) (kind : WakeKind) (filters : Byte) (tbc : W32) : State :=
  let written := s.mdc.wakeRecord.isNone
  let record := if written then some { kind := kind, filters := filters, tbc := tbc } else s.mdc.wakeRecord
  let s := (s.withMdc { s.mdc with wakeRecord := record }).notify (.wake kind filters tbc written)
  let toRun := decide (s.mdc.prior = some .run)
  let m := s.mdc.newStrands
  let s := s.withMdc { m with device := .waking, wakeKind := some kind, donePanels := !toRun }
  let p : Plr := { s.plr with hold := false }
  let s := (s.withPlr (if p.lane = .idle then p.wake else p)).laneAnswer
  let s := s.motionWake
  if toRun then s.withMdc s.mdc.powerUp else s

/-! ## What the Scanout Engine tells the Mode Controller (R40) -/

/-- Scanning has begun (R135, R144). -/
def State.scanningBegun (s : State) : State :=
  if s.mdc.device = .starting then
    let s := s.withMdc { s.mdc with device := .run }
    let s := match s.mdc.modeTag with
      | some tag => s.answerMode tag true
      | none => s
    s.refreshOffHead
  else if s.mdc.device = .waking then (s.withMdc { s.mdc with donePanels := true }).finishWaking
  else s

/-- Scanning has stopped (R136, R141). -/
def State.scanningStopped (s : State) : State :=
  if s.mdc.device = .stopping || s.mdc.device = .dozeEntry then s.withMdc s.mdc.powerDown else s

/-! ## Resets (R148) -/

/-- Every block at its reset values: the cause is recorded, the wake source record is what the reset keeps, and the
part stays held in reset or is released at once. The input lines, the sensor, the I2S clock and the commands waiting
for `step` are outside the blocks. -/
def State.resetBlocks (s : State) (cause : ResetCause) (wake : Option WakeRecord) (held : Bool) : State :=
  { ftb := Ftb.reset, plr := Plr.reset s.plr.signal, slm := Slm.reset, scn := Scn.reset,
    mot := Mot.reset s.mot.sensor,
    aud := Aud.reset s.aud.i2sPhase s.aud.periodDue s.aud.micPhase s.aud.micDue, mon := Mon.reset, gov := Gov.reset,
    mdc := Mdc.reset s.mdc.proximityHigh s.mdc.sidebandSignal wake cause held, smp := Smp.reset,
    pending := s.pending }

/-- A tether reset: released at once, the wake source record kept (R148). -/
def State.tetherReset (s : State) (cause : ResetCause) : State := s.resetBlocks cause s.mdc.wakeRecord false

end Sys2Proof.Machine
end

