-- ==== Sys2Proof/Machine/Lane.lean ====
section
/-! DEFINITION. The Picture Lane Receiver: the line signal, bursts and their checks (chapter 2), the lane-idle
controller and the LANE command (section 8.2). -/

namespace Sys2Proof.Machine

/-! ## The line signal (R19, R20) -/

/-- Training begins, or begins again: 2 ms (R19). -/
def Plr.train (p : Plr) : Plr := { p with lane := .training, trainLeft := 2000 }

/-- SIGNAL_DETECTED (R19): a DOWN lane goes TRAINING. A part held in reset only has the signal at its input. -/
def execSignalDetected (s : State) : Host.Outcome State Fault Refusal :=
  let p : Plr := { s.plr with signal := true }
  .next (s.withPlr (if !s.mdc.inReset && p.lane = .down then p.train else p))

/-- TRAINING_LOCK (R19): a TRAINING lane becomes ACTIVE. -/
def execTrainingLock (s : State) : Host.Outcome State Fault Refusal :=
  occur (fun s => s.plr.lane = .training) (fun s => s.laneActive) s

/-- TRAINING_TIMEOUT (R19): training begins again, and the lane stays TRAINING. -/
def execTrainingTimeout (s : State) : Host.Outcome State Fault Refusal :=
  occur (fun s => s.trainingTimeoutIsDue) (fun s => s.withPlr s.plr.train) s

/-- The burst in progress is abandoned (R20): a FILLING cell becomes FREE, and nothing is counted. -/
def State.abandonBurst (s : State) : State :=
  let s := match s.plr.burst with
    | .slice i => s.withSlm (s.slm.breakFill i)
    | _ => s
  s.withPlr { s.plr with burst := .none }

/-- SIGNAL_LOSS (R20): the lane is DOWN at once, from any state. -/
def execSignalLoss (s : State) : Host.Outcome State Fault Refusal :=
  let lost := s.withPlr { s.plr with signal := false }
  .next (if s.mdc.inReset then lost
    else
      let t := lost.abandonBurst
      (t.withPlr { t.plr with lane := .down, trainLeft := 0, waitLeft := 0 }).laneAnswer)

/-! ## Traffic that cannot be received (R21) -/

/-- ACTIVITY_IN_IDLE (R21): counted as a burst lost to idle, and an early wake. -/
def execActivityInIdle (s : State) : Host.Outcome State Fault Refusal :=
  occur (fun s => s.plr.lane = .idle) (fun s =>
    let s := s.note .lostToIdle
    (s.withPlr ({ s.plr with burst := .lost } : Plr).wake).laneAnswer) s

/-- WAKING_END (R21, R142): the lane becomes ACTIVE, and under the doze hold it returns to IDLE. -/
def execWakingEnd (s : State) : Host.Outcome State Fault Refusal :=
  occur (fun s => s.wakingEndIsDue) (fun s => s.laneActive) s

/-! ## Bursts (R22 to R25) -/

/-- A burst whose payload is skipped (R22, R27). -/
def State.skipBurst (s : State) (k : Counter) : State :=
  let s := s.note k
  s.withPlr { s.plr with burst := .skipped }

/-- The header of a burst that starts while the lane is ACTIVE (R22). -/
def State.openBurst (s : State) (header : List Byte) : State :=
  match checkHeader header with
  | .malformed => s.skipBurst .malformed
  | .audio tag count => s.withPlr { s.plr with burst := .audio tag count }
  | .slice e k tag ref =>
    match s.slm.allocate e k tag ref with
    | none => s.skipBurst .noCell
    | some (i, m) => (s.withSlm m).withPlr { s.plr with burst := .slice i }

/-- The effect of a burst start by the lane's state: lost in WAKING (R21), parsed in ACTIVE (R22), and neither
delivered nor counted in any other (R19). A burst whose start falls in TRAINING is in progress, unparsed, once the lane
becomes ACTIVE, until its end delimiter (R137). -/
def State.startBurst (s : State) (header : List Byte) : State :=
  match s.plr.lane with
  | .waking =>
    let s := s.note .lostToIdle
    s.withPlr { s.plr with burst := .lost }
  | .active => if s.plr.burst = .none then s.openBurst header else s
  | .training => s.withPlr { s.plr with burst := .lost }
  | .down | .idle => s

/-- BURST_START (R21, R22). -/
def execBurstStart (header : List Byte) (s : State) : Host.Outcome State Fault Refusal :=
  occur (fun _ => true) (fun s => s.startBurst header) s

/-- The frames not yet played (section 6.2). -/
def Aud.fill (a : Aud) : Nat := (a.queue.map (fun b => b.samples.length - b.consumed)).sum

/-- A delivered audio block at the Audio Unit (R97). -/
def State.deliverAudio (s : State) (tag : W16) (samples : List Stereo) : State :=
  if s.aud.playout = .stopped then s.count .audioStopped 1
  else if 16 ≤ s.aud.queue.length || 4096 < samples.length + s.aud.fill then s.count .audioOverflow 1
  else s.withAud { s.aud with queue := s.aud.queue ++ [{ tag := tag, samples := samples, consumed := 0 }] }

/-- A slice burst's end: completion or break of its fill (R23, R29, R30). -/
def State.endSlice (s : State) (i : Nat) (payload : List Byte) (crc : List Byte) : State :=
  if payloadGood 691200 payload crc then
    let r := s.slm.complete i s.ftb.tbc payload
    let s := s.withSlm r.1
    if r.2 then s.note .superseded else s
  else (s.withSlm (s.slm.breakFill i)).note .sliceCrc

/-- An audio burst's end: delivery or discard of its block (R23, R24). -/
def State.endAudio (s : State) (tag : W16) (count : Nat) (payload : List Byte) (crc : List Byte) : State :=
  if payloadGood (4 * count) payload crc then s.deliverAudio tag (stereoFrames payload) else s.count .audioCrc 1

/-- The burst in progress ends at its end delimiter. -/
def State.closeBurst (s : State) (payload : List Byte) (crc : List Byte) : State :=
  let s' := match s.plr.burst with
    | .slice i => s.endSlice i payload crc
    | .audio tag count => s.endAudio tag count payload crc
    | .none | .lost | .skipped => s
  s'.withPlr { s'.plr with burst := .none }

/-- The effect of an end delimiter: while the lane is ACTIVE it sets the last-burst-end TBC (R137), and the hold is
then obeyed (R142). -/
def State.endBurst (s : State) (payload : List Byte) (crc : List Byte) : State :=
  match s.plr.lane with
  | .active =>
    let s := s.closeBurst payload crc
    (s.withPlr ({ s.plr with lastEnd := some s.ftb.tbc } : Plr).underHold).laneAnswer
  | .waking | .idle | .training => s.withPlr { s.plr with burst := .none }
  | .down => s

/-- BURST_END (R23, R24, R137). -/
def execBurstEnd (payload : List Byte) (crc : List Byte) (s : State) : Host.Outcome State Fault Refusal :=
  occur (fun _ => true) (fun s => s.endBurst payload crc) s

/-! ## The lane-idle controller (R138 to R140) -/

/-- IDLE_ENTRY (R138): the resume TBC, the LANE_IDLE notice, and the receiver powered down. -/
def State.enterIdle (s : State) : State :=
  let resume := s.ftb.tbc + BitVec.ofNat 32 (s.ftb.toWakeMark + s.plr.tWait)
  (s.withPlr { s.plr with lane := .idle, lastIdle := some (s.ftb.tbc, resume) }).notify (.laneIdle resume s.ftb.tbc)

/-- IDLE_ENTRY (R138). -/
def execIdleEntry (s : State) : Host.Outcome State Fault Refusal :=
  occur (fun s => s.idleEntryIsDue) (fun s => s.enterIdle) s

/-- The EC4 mark at the lane: an IDLE lane outside DOZE goes WAKING (R21, R139). -/
def State.wakeMark (s : State) : State :=
  if s.plr.lane = .idle && s.mdc.device ≠ .doze then (s.withPlr s.plr.wake).laneAnswer else s

/-- The unstaged settings of LANE SET (R140). -/
def Plr.set (p : Plr) (f : LaneFields) : Plr :=
  { p with policy := switch f.policy p.policy, dReq := field16 0 2000 f.dReq p.dReq,
           dMin := field16 200 5000 f.dMin p.dMin, tWait := field16 10 500 f.tWait p.tWait }

/-- LANE SET brings a value into its range (R140). -/
def laneClamps (f : LaneFields) : Bool :=
  clamped16 0 2000 f.dReq || clamped16 200 5000 f.dMin || clamped16 10 500 f.tWait

/-- LANE SET as one transaction (R140): a refused command writes none of its fields. -/
def State.setLane (s : State) (tag : Byte) (f : LaneFields) : State :=
  let bad := f.stray || badSwitch f.policy
  let candidate := { s.ftb.staged with w := tick16 f.w s.ftb.staged.w }
  let s' := if bad || !candidate.consistent then s else s.withPlr (s.plr.set f)
  s'.stage (.laneSet tag f) tag bad (laneClamps f) candidate

/-- LANE SET (R140). -/
def execLaneSet (tag : Byte) (f : LaneFields) (s : State) : Host.Outcome State Fault Refusal :=
  execute (.laneSet tag f) (fun s => s.setLane tag f) s

/-- Data of the LANE GET reply (R140). -/
def State.laneData (s : State) : List Byte :=
  let p := s.plr
  [p.lane.code, boolByte p.policy] ++ num16 p.dReq ++ num16 p.dMin ++ num16 p.tWait ++ num16 s.ftb.live.w ++
    num16 s.ftb.staged.w ++ [packBits [p.lastEnd.isSome, p.lastIdle.isSome]] ++ tbcField p.lastEnd ++
    tbcField (p.lastIdle.map (·.1)) ++ tbcField (p.lastIdle.map (·.2))

/-- LANE GET (R140). -/
def execLaneGet (tag : Byte) (s : State) : Host.Outcome State Fault Refusal :=
  execute (.laneGet tag) (fun s => s.replyTo 0x21 tag .ok s.laneData) s

end Sys2Proof.Machine
end

