-- ==== Sys2Proof/Machine/Audio.lean ====
section
/-! DEFINITION. The Audio Unit (chapter 6): output periods, ramps, the governor's orders, microphone capture and the
AUDIO commands. The delivery of a block (R97) is in Machine/Lane.lean. -/

namespace Sys2Proof.Machine

/-! ## Ramps (R103) -/

/-- One channel of a ramp's step: base × (32 − i) / 32, truncated toward zero. -/
def rampSample (base : W16) (step : Nat) : W16 := BitVec.ofInt 16 (Int.tdiv (base.toInt * (32 - (step : Int))) 32)

/-- The source frame a running ramp gives. -/
def Ramp.frame (r : Ramp) : Stereo := { l := rampSample r.base.l r.step, r := rampSample r.base.r r.step }

/-- A period of a running ramp: its frame, and the step advanced or, at step 32, the ramp ended. -/
def Aud.rampPeriod (a : Aud) (r : Ramp) : Aud × Stereo :=
  (if 32 ≤ r.step then { a with ramp := none, lastFrame := Stereo.zero }
   else { a with ramp := some { r with step := r.step + 1 } }, r.frame)

/-! ## The output period (R96, R100 to R102) -/

/-- The next frame of the queue is consumed: one frame of the oldest block (R101). -/
def Aud.consume (a : Aud) : Aud × Stereo :=
  match a.queue with
  | [] => (a, Stereo.zero)
  | b :: rest =>
    let frame := b.samples.getD b.consumed Stereo.zero
    let queue := if b.samples.length ≤ b.consumed + 1 then rest else { b with consumed := b.consumed + 1 } :: rest
    ({ a with queue := queue, lastFrame := frame }, frame)

/-- An underrun: a ramp from the last frame played gives its first step, and the unit is PRIMING with the marker set
(R102). -/
def Aud.runDry (a : Aud) : Aud × Stereo :=
  let r : Ramp := { base := a.lastFrame, step := 1 }
  ({ a with playout := .priming, underrun := true } : Aud).rampPeriod r

/-- The period counts an underrun sample frame while the unit waits in PRIMING after an underrun (R102, R106). -/
def Aud.countsUnderrun (a : Aud) : Bool := a.playout = .priming && a.underrun && !a.powerFailHold

/-- The source frame of a period by the table of R96: the unit after it, the frame, and whether an underrun sample
frame is counted. -/
def Aud.sourcePeriod (a : Aud) : Aud × Stereo × Bool :=
  match a.ramp with
  | some r => ((a.rampPeriod r).1, (a.rampPeriod r).2, a.countsUnderrun)
  | none =>
    if a.powerFailHold then (a, Stereo.zero, false)
    else match a.playout with
      | .stopped => (a, Stereo.zero, false)
      | .priming =>
        if a.prefill ≤ a.fill then
          let c := ({ a with playout := .playing, underrun := false } : Aud).consume
          (c.1, c.2, false)
        else (a, Stereo.zero, a.underrun)
      | .playing =>
        if a.queue.isEmpty then (a.runDry.1, a.runDry.2, true) else (a.consume.1, a.consume.2, false)

/-- One output sample: floor(s × min(gain, cap) / 256) (R105). -/
def outputSample (v : W16) (gain cap : Nat) : W16 := BitVec.ofInt 16 (v.toInt * ((min gain cap : Nat) : Int) / 256)

/-- The I2S frame of the period is over: every third carries a microphone sample (R109). DESIGN CHOICE, log entry 34:
the sample falls due only once the output period of its I2S frame has been taken. -/
def Aud.nextFrame (a : Aud) : Aud :=
  let phase := (a.micPhase + 1) % 3
  { a with periodDue := false, micPhase := phase, micDue := phase = 0 }

/-- One output period (R96): the source frame, and the output frame through the gains and the cap as they stand. -/
def State.outputPeriod (s : State) : State :=
  let p := s.aud.sourcePeriod
  let cap := s.gov.cap
  let a := p.1.nextFrame
  let s := s.withAud { a with
    cap := cap,
    output := { l := outputSample p.2.1.l p.1.gainL cap, r := outputSample p.2.1.r p.1.gainR cap } }
  if p.2.2 then s.note .underrun else s

/-- OUTPUT_PERIOD (R96). The I2S clock runs on while the part is held in reset (R114). -/
def execOutputPeriod (s : State) : Host.Outcome State Fault Refusal :=
  .next (if s.aud.periodDue then s.outputPeriod else s)

/-! ## The governor's orders (R106, R107) -/

/-- The ramp order at the entry to POWER_FAIL. -/
def Aud.rampOrder (a : Aud) : Aud :=
  let held : Aud := { a with powerFailHold := true }
  if a.playout = .stopped then held else held.startRamp

/-- The release at the exit from POWER_FAIL: a ramp still running ends at once. -/
def Aud.release (a : Aud) : Aud :=
  match a.ramp with
  | none => { a with powerFailHold := false }
  | some _ => { a with powerFailHold := false, ramp := none, lastFrame := Stereo.zero }

/-! ## Microphone capture (R109) -/

/-- A microphone sample joins the block under assembly, which is opened for it where there is none. -/
def Aud.joinMic (a : Aud) (tbc : W32) (sample : W16) : MicDraft :=
  match a.micDraft with
  | none => { tbc := tbc, size := a.blockSize, samples := [sample] }
  | some d => { d with samples := d.samples ++ [sample] }

/-- A microphone sample taken in RUNNING: a block that reaches its size is completed and offered (R109, R110). -/
def State.micSample (s : State) (sample : W16) : State :=
  let d := s.aud.joinMic s.ftb.tbc sample
  if d.size ≤ d.samples.length then
    let seq := s.aud.blockSeq + 1
    (s.withAud { s.aud with micDraft := none, blockSeq := seq }).offerMic
      { seq := seq, tbc := d.tbc, samples := d.samples, lostBefore := 0 }
  else s.withAud { s.aud with micDraft := some d }

/-- The sample of the last I2S frame has been taken, or passed by. -/
def State.micPassed (s : State) : State := s.withAud { s.aud with micDue := false }

/-- MIC_SAMPLE (R109): with the microphone OFF the sample is not taken. -/
def execMicSample (sample : W16) (s : State) : Host.Outcome State Fault Refusal :=
  occur (fun s => s.aud.micDue) (fun s =>
    if s.aud.micRunning then s.micPassed.micSample sample else s.micPassed) s

/-! ## The AUDIO commands -/

/-- The settings of AUDIO SET written (R111). -/
def Aud.set (a : Aud) (f : AudioFields) : Aud :=
  { a with gainL := field16 0 256 f.gainL a.gainL, gainR := field16 0 256 f.gainR a.gainR,
           prefill := field16 48 4096 f.prefill a.prefill, blockSize := field16 80 960 f.blockSize a.blockSize }

/-- AUDIO SET brings a value into its range (R111). -/
def audioClamps (f : AudioFields) : Bool :=
  clamped16 0 256 f.gainL || clamped16 0 256 f.gainR || clamped16 48 4096 f.prefill || clamped16 80 960 f.blockSize

/-- AUDIO SET's effect and status (R111); a stray presence bit refuses it (R166). -/
def State.setAudio (s : State) (tag : Byte) (f : AudioFields) : State :=
  if f.stray then s.replyTo 0x40 tag .badValue []
  else (s.withAud (s.aud.set f)).replyTo 0x40 tag (okOr (audioClamps f)) []

/-- AUDIO SET (R111). -/
def execAudioSet (tag : Byte) (f : AudioFields) (s : State) : Host.Outcome State Fault Refusal :=
  execute (.audioSet tag f) (fun s => s.setAudio tag f) s

/-- A STOPPED unit enters PRIMING with the marker clear and an empty queue (R99). -/
def Aud.playStart (a : Aud) : Aud :=
  if a.playout = .stopped then { a with playout := .priming, underrun := false, queue := [] } else a

/-- AUDIO PLAY_START (R99). -/
def execAudioPlayStart (tag : Byte) (s : State) : Host.Outcome State Fault Refusal :=
  execute (.audioPlayStart tag) (fun s =>
    if s.mdc.dozing then s.replyTo 0x41 tag .wrongState []
    else (s.withAud s.aud.playStart).replyTo 0x41 tag .ok []) s

/-- AUDIO PLAY_STOP (R104). -/
def execAudioPlayStop (tag : Byte) (s : State) : Host.Outcome State Fault Refusal :=
  execute (.audioPlayStop tag) (fun s => (s.withAud s.aud.playStop).replyTo 0x42 tag .ok []) s

/-- MIC_START (R108). -/
def execMicStart (tag : Byte) (s : State) : Host.Outcome State Fault Refusal :=
  execute (.micStart tag) (fun s =>
    if s.mdc.dozing then s.replyTo 0x43 tag .wrongState []
    else (s.withAud { s.aud with micRunning := true }).replyTo 0x43 tag .ok []) s

/-- MIC_STOP (R108). -/
def execMicStop (tag : Byte) (s : State) : Host.Outcome State Fault Refusal :=
  execute (.micStop tag) (fun s => (s.withAud s.aud.micStop).replyTo 0x44 tag .ok []) s

/-- Data of the AUDIO GET reply (R112). -/
def State.audioData (s : State) : List Byte :=
  let a := s.aud
  let oldest := a.queue.head?
  let newest := a.queue.getLast?
  [a.playout.code, a.flagByte] ++ num8 ((a.ramp.map (·.step)).getD 0) ++ num16 a.fill ++ num8 a.queue.length ++
    le16 ((oldest.map (·.tag)).getD 0) ++ num16 ((oldest.map (·.consumed)).getD 0) ++
    le16 ((newest.map (·.tag)).getD 0) ++ num16 a.gainL ++ num16 a.gainR ++ num16 a.prefill ++ num16 a.blockSize ++
    num16 a.cap ++ num16 ((a.micDraft.map (·.samples.length)).getD 0) ++ le16 a.blockSeq ++ num8 a.uplink.length

/-- AUDIO GET (R112). -/
def execAudioGet (tag : Byte) (s : State) : Host.Outcome State Fault Refusal :=
  execute (.audioGet tag) (fun s => s.replyTo 0x45 tag .ok s.audioData) s

end Sys2Proof.Machine
end

