-- ==== Sys2Proof/Machine/Governor.lean ====
section
/-! DEFINITION. The Power Governor (sections 7.8 to 7.10): undervoltage, the evaluation, the state decision, recovery,
and the ALLOWANCE and LIMITS commands. -/

namespace Sys2Proof.Machine

/-! ## Undervoltage (R14, R106, R130) -/

/-- The strobe cut: both outputs off at once (R14). -/
def Ftb.cutStrobe (f : Ftb) : Ftb := { f with cut := true, strobe := Eyes.both false }

/-- The entry to POWER_FAIL: cut, ramp order, recovery count and notice; w_limit and the cap are kept (R130). -/
def State.enterPowerFail (s : State) (vin : Nat) (tbc : W32) : State :=
  let left := s.gov.state
  let t := ((s.withGov { s.gov with state := .powerFail, recovery := 0 }).withFtb s.ftb.cutStrobe).withAud s.aud.rampOrder
  t.notify (.governor .powerFail left vin tbc)

/-- An M0 value at the Governor (R130). -/
def State.undervoltage (s : State) (vin : Nat) (tbc : W32) : State :=
  if vin < s.gov.vuv then
    if s.gov.state = .powerFail then s.withGov { s.gov with recovery := 0 } else s.enterPowerFail vin tbc
  else s

/-! ## The evaluation (R126) -/

/-- Step 1: the allowance derated by the skin temperature. -/
def Gov.derated (g : Gov) (skin : Int) : Nat :=
  if skin ≤ (g.ts : Int) then g.allowance
  else if (g.tLim : Int) ≤ skin then 0
  else ((g.allowance : Int) * ((g.tLim : Int) - skin) / ((g.tLim : Int) - (g.ts : Int))).toNat

/-- The quotient of step 6; at VIN = 0, which never arises, it is a free value (log entry 4). -/
def widthQuotient (n vin iPk : Nat) : Nat :=
  if vin = 0 then Config.widthQuotientAtZeroVin n else n / (2 * vin * iPk)

/-- Step 6: the width limit of a budget. -/
def widthLimit (t : TimingSet) (vin : Nat) (budget : Int) : Nat :=
  if t.iPk = 0 then t.p
  else if budget ≤ 0 then 0
  else min t.p (widthQuotient (budget.toNat * 1000 * t.p) vin t.iPk)

/-- The six steps of a full evaluation, on the round's VIN, IIN and skin temperature, the live set and the width of
the current frame. -/
def Gov.evaluate (g : Gov) (t : TimingSet) (wLive vin iin : Nat) (skin : Int) (tbc : W32) : Evaluation :=
  let aEff := g.derated skin
  let pIn := vin * iin / 1000
  let pBl := 2 * vin * t.iPk * wLive / (1000 * t.p)
  let pBase := pIn - pBl
  let budget : Int := (aEff : Int) - (pBase : Int) - (g.rs : Int)
  { tbc := tbc, vin := vin, iin := iin, skin := skin, wLive := wLive, aEff := aEff, pIn := pIn, pBl := pBl,
    pBase := pBase, budget := budget, wLimit := widthLimit t vin budget }

/-! ## The state decision (R127) and the recovery (R131) -/

/-- The state decided from the current state, the new width limit and the live w_req (R127). -/
def Gov.decide (g : Gov) (wLimit wReq : Nat) : GovState :=
  if g.state = .shedding ∧ wLimit < g.wFloor + g.wFloor / 4 then .shedding
  else if wReq ≤ wLimit then .normal
  else if g.wFloor ≤ wLimit then .limiting
  else .shedding

/-- The audio gain cap set on entering a state outside POWER_FAIL (R127). -/
def GovState.gainCap : GovState → Nat
  | .shedding => 128
  | _ => 256

/-- The width fixed for the current frame, 0 in a frame that is not scanned (R126). -/
def Scn.liveWidth (x : Scn) : Nat := (x.frame.map (·.wEff)).getD 0

/-- A full evaluation and the state decision after it; on a change of state the cap is set and a GOVERNOR notice
queued, and the exit from POWER_FAIL releases the audio (R126, R127, R131). -/
def State.evaluateFully (s : State) (vin iin : Nat) (skin : Int) (tbc : W32) : State :=
  let g := s.gov
  let v := g.evaluate s.ftb.live s.scn.liveWidth vin iin skin tbc
  let new := g.decide v.wLimit s.ftb.live.wReq
  let g' : Gov := { g with wLimit := v.wLimit, evaluation := some v, state := new }
  if new = g.state then s.withGov g'
  else
    let t := s.withGov { g' with cap := new.gainCap }
    let t := if g.state = .powerFail then t.withAud t.aud.release else t
    t.notify (.governor new g.state v.wLimit tbc)

/-- The recovery count after a frame round's VIN in POWER_FAIL (R131). -/
def Gov.recoveryAfter (g : Gov) (vin : Nat) : Nat := if g.vuv + 500 ≤ vin then g.recovery + 1 else 0

/-- A frame round's values reach the Governor (R126, R131). -/
def State.evaluate (s : State) (vin iin : Nat) (skin : Int) (tbc : W32) : State :=
  if s.gov.state = .powerFail then
    let n := s.gov.recoveryAfter vin
    if 3 ≤ n then (s.withGov { s.gov with recovery := 0 }).evaluateFully vin iin skin tbc
    else s.withGov { s.gov with recovery := n }
  else s.evaluateFully vin iin skin tbc

/-! ## ALLOWANCE (R128) -/

/-- ALLOWANCE SET's effect and status (R128). -/
def State.setAllowance (s : State) (tag : Byte) (allowance : W16) : State :=
  (s.withGov { s.gov with allowance := field 0 30000 allowance.toNat }).replyTo 0x54 tag
    (okOr (outside 0 30000 allowance.toNat)) []

/-- ALLOWANCE SET (R128). -/
def execAllowanceSet (tag : Byte) (allowance : W16) (s : State) : Host.Outcome State Fault Refusal :=
  execute (.allowanceSet tag allowance) (fun s => s.setAllowance tag allowance) s

/-- The five settings of LIMITS (section 10.6). -/
def Gov.limitBytes (g : Gov) : List Byte :=
  num16 g.rs ++ num16 g.vuv ++ num16 g.wFloor ++ num16 g.ts ++ num16 g.tLim

/-- The evaluation record in the ALLOWANCE GET reply; every field 0 while it is absent (section 10.6). -/
def evaluationBytes : Option Evaluation → List Byte
  | none => List.replicate 33 0
  | some v =>
    [1] ++ le32 v.tbc ++ num16 v.vin ++ num16 v.iin ++ int16 v.skin ++ num16 v.wLive ++ num16 v.aEff ++
      num32 v.pIn ++ num32 v.pBl ++ num32 v.pBase ++ int32 v.budget ++ num16 v.wLimit

/-- Data of the ALLOWANCE GET reply (R128). -/
def Gov.allowanceData (g : Gov) : List Byte :=
  num16 g.allowance ++ g.limitBytes ++ [g.state.code] ++ num16 g.wLimit ++ num16 g.cap ++ num8 g.recovery ++
    evaluationBytes g.evaluation

/-- ALLOWANCE GET (R128). -/
def execAllowanceGet (tag : Byte) (s : State) : Host.Outcome State Fault Refusal :=
  execute (.allowanceGet tag) (fun s => s.replyTo 0x55 tag .ok s.gov.allowanceData) s

/-! ## LIMITS (R129) -/

/-- The settings LIMITS SET would leave (R129). -/
def Gov.limited (g : Gov) (f : LimitsFields) : Gov :=
  { g with rs := field16 0 2000 f.rs g.rs, vuv := field16 6500 14000 f.vuv g.vuv,
           wFloor := field16 0 2000 f.wFloor g.wFloor, ts := field16 0 1000 f.ts g.ts,
           tLim := field16 0 1000 f.tLim g.tLim }

/-- LIMITS SET brings a value into its range (R129). -/
def limitClamps (f : LimitsFields) : Bool :=
  clamped16 0 2000 f.rs || clamped16 6500 14000 f.vuv || clamped16 0 2000 f.wFloor || clamped16 0 1000 f.ts ||
    clamped16 0 1000 f.tLim

/-- LIMITS SET's effect and status (R129). -/
def State.setLimits (s : State) (tag : Byte) (f : LimitsFields) : State :=
  let g := s.gov.limited f
  if f.stray then s.replyTo 0x56 tag .badValue []
  else if g.tLim ≤ g.ts then s.replyTo 0x56 tag .conflict []
  else (s.withGov g).replyTo 0x56 tag (okOr (limitClamps f)) []

/-- LIMITS SET (R129). -/
def execLimitsSet (tag : Byte) (f : LimitsFields) (s : State) : Host.Outcome State Fault Refusal :=
  execute (.limitsSet tag f) (fun s => s.setLimits tag f) s

/-- LIMITS GET (R129). -/
def execLimitsGet (tag : Byte) (s : State) : Host.Outcome State Fault Refusal :=
  execute (.limitsGet tag) (fun s => s.replyTo 0x57 tag .ok s.gov.limitBytes) s

end Sys2Proof.Machine
end

