-- ==== Sys2Proof/Machine/LateShift.lean ====
section
/-! DEFINITION. The late shift (chapter 5): the computation of R80 to R87, the last-shift records (R91) and the SHIFT
command (R92 to R94). -/

namespace Sys2Proof.Machine

/-- What a shift computation forms; a part is absent where the computation ended before it (R91, R94). -/
structure ShiftResult where
  /-- s_n and D (R82). -/
  found : Option (W16 × Nat)
  /-- Horizon h used (R83). -/
  horizon : Option Nat
  /-- q_yaw, q_pitch, d_yaw and d_pitch (R84, R85). -/
  detail : Option (Int × Int × Int × Int)
  shiftX : Int
  shiftY : Int
  flags : ShiftFlags
  deriving DecidableEq, Repr

/-- A result of (0, 0) with the flags given. -/
def ShiftResult.none (flags : ShiftFlags) : ShiftResult :=
  { found := Option.none, horizon := Option.none, detail := Option.none, shiftX := 0, shiftY := 0, flags := flags }

/-- The horizon used, and the horizon-past and horizon-clamped flags (R83). -/
def boundHorizon (h : Int) (hMax : Nat) : Nat × Bool × Bool :=
  if h < 0 then (0, true, false) else if (hMax : Int) < h then (hMax, false, true) else (h.toNat, false, false)

/-- The extrapolation q of a rate over the horizon (R84). -/
def extrapolate (rate : W16) (h : Nat) : Int := nearest (rate.toInt * (h : Int) * 4096) 1000000

/-- The delta d from a reference angle to the predicted one (R84, R85). -/
def angleDelta (newest ref : W32) (q : Int) : Int := (newest + BitVec.ofInt 32 q - ref).toInt

/-- A delta in pixels or lines (R86). -/
def toPixels (d : Int) (ppd : Nat) : Int := nearest (d * (ppd : Int)) (2 ^ 24)

/-- The computation once the newest entry and the reference entry are found (R83 to R87). -/
def shiftBetween (t : TimingSet) (target : W32) (newest ref : RingEntry) (d : Nat) : ShiftResult :=
  let hz := boundHorizon (tbcDiff target newest.tbc) t.hMax
  let qYaw := extrapolate newest.rate.y hz.1
  let qPitch := extrapolate newest.rate.x hz.1
  let dYaw := angleDelta newest.acc.yaw ref.acc.yaw qYaw
  let dPitch := angleDelta newest.acc.pitch ref.acc.pitch qPitch
  let x := clipShift (toPixels dYaw t.ppdX) t.maxX
  let y := clipShift (toPixels dPitch t.ppdY) t.maxY
  { found := some (newest.seq, d), horizon := some hz.1, detail := some (qYaw, qPitch, dYaw, dPitch),
    shiftX := x.1, shiftY := y.1,
    flags := { stale := false, horizonClamped := hz.2.2, horizonPast := hz.2.1, xClipped := x.2, yClipped := y.2,
               noMotion := false } }

/-- The gate of the motion state, the reference lookup and the rest (R81 to R87), for a render reference and a target
TBC under the settings of a timing set. -/
def Mot.shift (m : Mot) (t : TimingSet) (ref : W16) (target : W32) : ShiftResult :=
  if m.state ≠ .running ∧ m.state ≠ .stalled then
    ShiftResult.none { ShiftFlags.clear with noMotion := true }
  else match m.ring.getLast? with
    | none => ShiftResult.none { ShiftFlags.clear with stale := true }
    | some newest =>
      let d := (newest.seq - ref).toNat
      match (if d < m.ring.length then m.ring[m.ring.length - 1 - d]? else none) with
      | none => { ShiftResult.none { ShiftFlags.clear with stale := true } with found := some (newest.seq, d) }
      | some entry => shiftBetween t target newest entry d

/-- The answer to a shift request: the enable gate first (R80). -/
def Mot.answerShift (m : Mot) (t : TimingSet) (ref : W16) (target : W32) : ShiftResult :=
  if t.shiftEnable then m.shift t ref target else ShiftResult.none ShiftFlags.clear

/-- The last-shift record of an answered request (R91). -/
def ShiftResult.record (r : ShiftResult) (takeTbc : W32) (ref : W16) (target : W32) : ShiftRecord :=
  { takeTbc := takeTbc, ref := ref, target := target, found := r.found, horizon := r.horizon, shiftX := r.shiftX,
    shiftY := r.shiftY, flags := r.flags }

/-- A shift request of the Scanout Engine (R79): the reply, and the state with the eye's record replaced. -/
def State.requestShift (s : State) (e : Eye) (ref : W16) (target takeTbc : W32) : ShiftResult × State :=
  let r := s.mot.answerShift s.ftb.live ref target
  (r, s.withMot { s.mot with lastShift := s.mot.lastShift.put e (some (r.record takeTbc ref target)) })

/-! ## The SHIFT command -/

/-- SHIFT SET's candidate for the staged set (R92). -/
def shiftCandidate (t : TimingSet) (f : ShiftFields) : TimingSet :=
  { t with
    shiftEnable := switch f.enable t.shiftEnable, ppdX := field16 0 16383 f.ppdX t.ppdX,
    ppdY := field16 0 16383 f.ppdY t.ppdY, maxX := field16 0 255 f.maxX t.maxX, maxY := field16 0 120 f.maxY t.maxY,
    hMax := field16 1000 50000 f.hMax t.hMax }

/-- SHIFT SET brings a value into its range (R92). -/
def shiftClamps (f : ShiftFields) : Bool :=
  clamped16 0 16383 f.ppdX || clamped16 0 16383 f.ppdY || clamped16 0 255 f.maxX || clamped16 0 120 f.maxY ||
    clamped16 1000 50000 f.hMax

/-- SHIFT SET (R92). -/
def execShiftSet (tag : Byte) (f : ShiftFields) (s : State) : Host.Outcome State Fault Refusal :=
  execute (.shiftSet tag f) (fun s => s.stage (.shiftSet tag f) tag (f.stray || badSwitch f.enable) (shiftClamps f)
    (shiftCandidate s.ftb.staged f)) s

/-- The six shift settings of one copy of the timing set (section 10.6). -/
def shiftSettings (t : TimingSet) : List Byte :=
  [boolByte t.shiftEnable] ++ num16 t.ppdX ++ num16 t.ppdY ++ num16 t.maxX ++ num16 t.maxY ++ num16 t.hMax

/-- A last-shift record in the SHIFT GET reply (section 10.6); every field 0 while it is absent. -/
def shiftRecordBytes : Option ShiftRecord → List Byte
  | none => List.replicate 21 0
  | some r =>
    [packBits [true, r.found.isSome, r.horizon.isSome]] ++ le32 r.takeTbc ++ le16 r.ref ++ le32 r.target ++
      le16 ((r.found.map (·.1)).getD 0) ++ num16 ((r.found.map (·.2)).getD 0) ++ num16 (r.horizon.getD 0) ++
      int16 r.shiftX ++ int8 r.shiftY ++ [r.flags.byte]

/-- Data of the SHIFT GET reply (R93). -/
def State.shiftData (s : State) : List Byte :=
  shiftSettings s.ftb.live ++ shiftSettings s.ftb.staged ++ shiftRecordBytes s.mot.lastShift.l ++
    shiftRecordBytes s.mot.lastShift.r

/-- SHIFT GET (R93). -/
def execShiftGet (tag : Byte) (s : State) : Host.Outcome State Fault Refusal :=
  execute (.shiftGet tag) (fun s => s.replyTo 0x19 tag .ok s.shiftData) s

/-- Data of the SHIFT PROBE reply (R94): the computation of R81 to R87 under the live settings, without the enable
gate. -/
def State.probeData (s : State) (ref : W16) (target : W32) : List Byte :=
  let r := s.mot.shift s.ftb.live ref target
  let q := r.detail.getD (0, 0, 0, 0)
  [boolByte s.ftb.live.shiftEnable, packBits [r.found.isSome, r.horizon.isSome, r.detail.isSome]] ++
    num8 s.mot.ring.length ++ le16 ((r.found.map (·.1)).getD 0) ++ num16 ((r.found.map (·.2)).getD 0) ++
    num16 (r.horizon.getD 0) ++ int32 q.1 ++ int32 q.2.1 ++ int32 q.2.2.1 ++ int32 q.2.2.2 ++ int16 r.shiftX ++
    int8 r.shiftY ++ [r.flags.byte]

/-- SHIFT PROBE (R94). -/
def execShiftProbe (tag : Byte) (ref : W16) (target : W32) (s : State) : Host.Outcome State Fault Refusal :=
  execute (.shiftProbe tag ref target) (fun s => s.replyTo 0x1A tag .ok (s.probeData ref target)) s

end Sys2Proof.Machine
end

