-- ==== Sys2Proof/Machine/Motion.lean ====
section
/-! DEFINITION. The Motion Unit (chapter 4): starting and stopping the sensor, the sample read and its four
processing steps, stalls, reports, calibration, recentring and the wake filters. -/

namespace Sys2Proof.Machine

/-- The nominal interval, 10^6 / rate µs (section 4.1). -/
def Mot.nominal (m : Mot) : Nat := 1000000 / m.rate

/-! ## MOTION START (R57, R58) -/

/-- The verdict of MOTION START's checks in their order; none where it is accepted (R57). -/
def motionStartRefusal (s : State) (f : MotionStartFields) : Option Status :=
  if s.mdc.dozing then some .wrongState
  else if s.mot.state ≠ .off then some .busy
  else if f.stray || !(f.rate = 500 || f.rate = 1000 || f.rate = 2000) || badSwitch f.edge then some .badValue
  else none

/-- An accepted MOTION START (R57): the settings are recorded, EC5 is armed, and the identity read is wanted. -/
def State.beginStart (s : State) (tag : Byte) (f : MotionStartFields) : State :=
  let m : Mot := { s.mot with
    state := .starting, rate := f.rate.toNat, batch := field 1 8 f.batch.toNat, expected := some f.identity,
    starting := some (tag, outside 1 8 f.batch.toNat), configured := false }
  (s.withMot (m.want .identityRead false)).withFtb
    { s.ftb with armed := true, edgeRising := f.edge ≠ some 1 }

/-- MOTION START (R57). -/
def execMotionStart (tag : Byte) (f : MotionStartFields) (s : State) : Host.Outcome State Fault Refusal :=
  execute (.motionStart tag f) (fun s =>
    match motionStartRefusal s f with
    | some st => s.replyTo 0x30 tag st []
    | none => s.beginStart tag f) s

/-- STARTING ends in FAULT with a reason and the identity read (R58). -/
def State.failStart (s : State) (reason : Byte) : State :=
  let s := match s.mot.starting with
    | none => s
    | some (tag, _) =>
      (s.withMot { s.mot with starting := none }).replyTo 0x30 tag .fault [reason, s.mot.lastIdentity.getD 0]
  s.motionOff false

/-- The transaction on the bus was wanted by the state the Motion Unit is still in. -/
def Mot.busWanted (m : Mot) : Bool := m.bus.any (·.wanted)

/-- The transaction on the bus answers the Mode Controller's order. -/
def Mot.busAnswers (m : Mot) : Bool := m.bus.any (·.answers)

/-- The rate that the write on the bus carries. -/
def Mot.busRate (m : Mot) : Nat := (m.bus.map (·.rate)).getD 0

/-- The identity read completes (R58, R61). -/
def State.identityRead (s : State) (identity : Byte) : State :=
  let wanted := s.mot.busWanted
  let s := s.withMot { s.mot.busNext with lastIdentity := some identity }
  if !wanted then s
  else if s.mot.expected = some identity then s.withMot (s.mot.want .configWrite false)
  else s.failStart 0

/-- IDENTITY_READ_COMPLETE (R58). -/
def execIdentityReadComplete (identity : Byte) (s : State) : Host.Outcome State Fault Refusal :=
  occur (fun s => s.mot.busDone .identityRead) (fun s => s.identityRead identity) s

/-- The configuration write completes: the sensor is configured at the rate the write was
wanted with, and a Motion Unit still in STARTING starts the first-sample timer (R58, R61). -/
def State.configWritten (s : State) : State :=
  let m := { s.mot.busNext with sensor := .configured s.mot.busRate }
  s.withMot (if s.mot.busWanted then { m with configured := true, firstLeft := some 50000 } else m)

/-- CONFIG_WRITE_COMPLETE (R58). -/
def execConfigWriteComplete (s : State) : Host.Outcome State Fault Refusal :=
  occur (fun s => s.mot.busDone .configWrite) (fun s => s.configWritten) s

/-- FIRST_SAMPLE_TIMEOUT (R58): FAULT NO_DATA_READY. -/
def execFirstSampleTimeout (s : State) : Host.Outcome State Fault Refusal :=
  occur (fun s => s.firstSampleTimeoutIsDue) (fun s => s.failStart 1) s

/-! ## MOTION STOP and MOTION GET (R59, R60) -/

/-- What MOTION STOP does outside OFF, as one event (R59). -/
def State.stopMotion (s : State) : State :=
  let s := s.abandonRead.abortStart.abortCalibration.completeDraft
  (s.withMot { s.mot.clearRuns with ring := [], prevTbc := none }).motionOff false

/-- MOTION STOP (R59): always replied OK. -/
def execMotionStop (tag : Byte) (s : State) : Host.Outcome State Fault Refusal :=
  execute (.motionStop tag) (fun s =>
    (if s.mot.state = .off then s else s.stopMotion).replyTo 0x31 tag .ok []) s

/-- Three signed 16-bit values. -/
def biasBytes (b : Axes Int) : List Byte := int16 b.x ++ int16 b.y ++ int16 b.z

/-- Data of the MOTION GET reply (R60). -/
def State.motionData (s : State) : List Byte :=
  let m := s.mot
  let oldest := m.ring.head?
  [packBits [m.expected.isSome, m.lastIdentity.isSome, m.integrated, oldest.isSome, m.cal.isSome], m.state.code] ++
    num16 m.rate ++ num8 m.batch ++ [boolByte (!s.ftb.edgeRising), m.expected.getD 0, m.lastIdentity.getD 0] ++
    biasBytes m.bias ++ angleBytes m.acc ++ num32 m.residue.yaw ++ num32 m.residue.pitch ++ num32 m.residue.roll ++
    le16 (if m.integrated then m.seq else 0) ++ num8 m.ring.length ++ le16 ((oldest.map (·.seq)).getD 0) ++
    num8 m.queue.length ++ num16 ((m.cal.map (·.n)).getD 0) ++ num16 ((m.cal.map (·.stillness)).getD 0) ++
    num16 ((m.cal.map (·.count)).getD 0)

/-- MOTION GET (R60). -/
def execMotionGet (tag : Byte) (s : State) : Host.Outcome State Fault Refusal :=
  execute (.motionGet tag) (fun s => s.replyTo 0x32 tag .ok s.motionData) s

/-! ## Captures (R61, R66) -/

/-- The Motion Unit reads captures in its present state (R58, R61). -/
def Mot.readsCaptures (m : Mot) : Bool :=
  match m.state with
  | .running | .stalled | .dozeWatch => true
  | .starting => m.configured
  | .off => false

/-- A capture restarts the stall timer while it runs (R66). -/
def Mot.restartStall (m : Mot) : Mot := { m with stallLeft := m.stallLeft.map (fun _ => 4 * m.nominal) }

/-- The Motion Unit is told of a capture (R61): it starts a sample read, or the capture is released unread. -/
def State.takeCapture (s : State) (c : Capture) : State :=
  let m := s.mot.restartStall
  if m.readsCaptures && m.bus.isNone then
    s.withMot { m.want .sampleRead false with reading := some c, firstLeft := none }
  else (s.withMot m).withFtb { s.ftb with slot := none }

/-! ## The four processing steps (R62 to R65, R67) -/

/-- Step one: the biased rates, whether any saturated, and how many did (R62). -/
def biased (raw : RawSample) (b : Axes Int) : Axes W16 × Nat :=
  let x := saturateRate (raw.gx.toInt - b.x)
  let y := saturateRate (raw.gy.toInt - b.y)
  let z := saturateRate (raw.gz.toInt - b.z)
  ({ x := x.1, y := y.1, z := z.1 }, x.2.toNat + y.2.toNat + z.2.toNat)

/-- Step two: the interval and its flag; the first sample after a start or a wake takes the nominal one (R63). -/
def Mot.interval (m : Mot) (tbc : W32) : Int × Bool :=
  match m.prevTbc with
  | none => ((m.nominal : Int), false)
  | some t => clampInterval (tbcDiff tbc t)

/-- Step three for one axis: the new accumulator and residue (R64). -/
def integrateAxis (acc : W32) (residue : Nat) (rate : W16) (dt : Int) : W32 × Nat :=
  let p : Int := rate.toInt * dt * 4096 + (residue : Int)
  (acc + BitVec.ofInt 32 (p / 1000000), (p % 1000000).toNat)

/-- The accelerometer values of a raw sample. -/
def rawAccel (raw : RawSample) : Axes W16 := { x := raw.ax, y := raw.ay, z := raw.az }

/-- Steps three and four: integration, the sequence and the ring (R64, R65). -/
def Mot.integrate (m : Mot) (tbc : W32) (rate : Axes W16) (accel : Axes W16) (dt : Int) : Mot :=
  let yaw := integrateAxis m.acc.yaw m.residue.yaw rate.y dt
  let pitch := integrateAxis m.acc.pitch m.residue.pitch rate.x dt
  let roll := integrateAxis m.acc.roll m.residue.roll rate.z dt
  let acc : Angles W32 := { yaw := yaw.1, pitch := pitch.1, roll := roll.1 }
  let entry : RingEntry := { seq := m.seq + 1, tbc := tbc, acc := acc, rate := rate }
  let ring := if 128 ≤ m.ring.length then m.ring.drop 1 else m.ring
  { m with acc := acc, residue := { yaw := yaw.2, pitch := pitch.2, roll := roll.2 }, prevTbc := some tbc,
           seq := m.seq + 1, integrated := true, lastAccel := some accel, ring := ring ++ [entry] }

/-- A sample joins the report under assembly, which is opened for it where there is none (R67). -/
def Mot.batchSample (m : Mot) (x : ReportSample) : Mot :=
  match m.draft with
  | none => { m with draft := some { first := m.seq, samples := [x] } }
  | some d => { m with draft := some { d with samples := d.samples ++ [x] } }

/-- The report under assembly is completed when it holds B samples (R67). -/
def State.batchFull (s : State) : State :=
  if s.mot.draft.any (fun d => s.mot.batch ≤ d.samples.length) then s.completeDraft else s

/-! ## Calibration (R71, R72) -/

/-- A raw value folded into a minimum and a maximum. -/
def foldLeast (v : Int) (m : Option Int) : Option Int := some (match m with | none => v | some x => min x v)
/-- A raw value folded into a maximum. -/
def foldGreatest (v : Int) (m : Option Int) : Option Int := some (match m with | none => v | some x => max x v)

/-- A sample's raw gyro values added to the context (R72). -/
def Calibration.add (c : Calibration) (raw : RawSample) : Calibration :=
  let x := raw.gx.toInt
  let y := raw.gy.toInt
  let z := raw.gz.toInt
  { c with
    count := c.count + 1, sum := { x := c.sum.x + x, y := c.sum.y + y, z := c.sum.z + z },
    least := { x := foldLeast x c.least.x, y := foldLeast y c.least.y, z := foldLeast z c.least.z },
    greatest :=
      { x := foldGreatest x c.greatest.x, y := foldGreatest y c.greatest.y, z := foldGreatest z c.greatest.z } }

/-- The spread of one axis. -/
def spread (least greatest : Option Int) : Int := greatest.getD 0 - least.getD 0

/-- Movement on any axis (R72). -/
def Calibration.movedNow (c : Calibration) : Bool :=
  (c.stillness : Int) < spread c.least.x c.greatest.x || (c.stillness : Int) < spread c.least.y c.greatest.y ||
    (c.stillness : Int) < spread c.least.z c.greatest.z

/-- Minimum and maximum of x, of y and of z (section 10.6). -/
def Calibration.extremes (c : Calibration) : List Byte :=
  int16 (c.least.x.getD 0) ++ int16 (c.greatest.x.getD 0) ++ int16 (c.least.y.getD 0) ++
    int16 (c.greatest.y.getD 0) ++ int16 (c.least.z.getD 0) ++ int16 (c.greatest.z.getD 0)

/-- The new bias of one axis and whether it was clamped (R72). -/
def calibratedBias (sum : Int) (n : Nat) : Int × Bool :=
  let v := nearest sum n
  (clampTo (-2048) 2047 v, v < -2048 || 2047 < v)

/-- A calibration that has seen its N samples (R72). -/
def State.completeCalibration (s : State) (c : Calibration) : State :=
  let x := calibratedBias c.sum.x c.n
  let y := calibratedBias c.sum.y c.n
  let z := calibratedBias c.sum.z c.n
  let b : Axes Int := { x := x.1, y := y.1, z := z.1 }
  (s.withMot { s.mot with cal := none, bias := b }).replyTo 0x35 c.tag
    (okOr (c.clamped || x.2 || y.2 || z.2)) (biasBytes b ++ c.extremes)

/-- A processed sample at the calibration in flight (R72): movement first, then completion. -/
def State.calibrateSample (s : State) (raw : RawSample) : State :=
  match s.mot.cal with
  | none => s
  | some c =>
    let c := c.add raw
    if c.movedNow then
      (s.withMot { s.mot with cal := none }).replyTo 0x35 c.tag .moved (num16 c.count ++ c.extremes)
    else if c.n ≤ c.count then s.completeCalibration c
    else s.withMot { s.mot with cal := some c }

/-- The verdict of CALIBRATE's checks in their order; none where it is accepted (R71). -/
def calibrateRefusal (s : State) (f : CalibrateFields) : Option Status :=
  if s.mot.cal.isSome then some .busy
  else if s.mdc.dozing || s.mot.state ≠ .running then some .wrongState
  else if f.stray || !(f.n = 256 || f.n = 512 || f.n = 1024 || f.n = 2048 || f.n = 4096) then some .badValue
  else none

/-- The calibration context as it is opened (R71). -/
def Calibration.open (tag : Byte) (f : CalibrateFields) : Calibration :=
  { tag := tag, clamped := clamped16 1 2048 f.stillness, n := f.n.toNat, stillness := field16 1 2048 f.stillness 48,
    count := 0, sum := { x := 0, y := 0, z := 0 }, least := { x := none, y := none, z := none },
    greatest := { x := none, y := none, z := none } }

/-- CALIBRATE (R71). -/
def execCalibrate (tag : Byte) (f : CalibrateFields) (s : State) : Host.Outcome State Fault Refusal :=
  execute (.calibrate tag f) (fun s =>
    match calibrateRefusal s f with
    | some st => s.replyTo 0x35 tag st []
    | none => s.withMot { s.mot with cal := some (Calibration.open tag f) }) s

/-! ## A sample processed (R61 to R67, R72) -/

/-- The steps of an integrated sample: bias, interval, integration, ring, report, calibration. DESIGN CHOICE, log entry
33: where one sample both completes a report (R67) and ends a calibration (R72), the report is offered before the reply
is made, so that on an idle sideband the report is sent first (R158). -/
def State.processSample (s : State) (c : Capture) (raw : RawSample) : State :=
  let g := biased raw s.mot.bias
  let dt := s.mot.interval c.tbc
  let s := s.count .saturation g.2
  let m := s.mot.integrate c.tbc g.1 (rawAccel raw) dt.1
  let x : ReportSample :=
    { tbc := c.tbc, gyro := g.1, accel := rawAccel raw, clipped := 0 < g.2, overrun := c.overrun,
      intervalClamped := dt.2 }
  ((s.withMot (m.batchSample x)).batchFull).calibrateSample raw

/-- The stall timer starts from this moment, and the Motion Unit is RUNNING (R58, R66, R75). -/
def Mot.run (m : Mot) : Mot := { m with state := .running, stallLeft := some (4 * m.nominal) }

/-- The first sample of a start: RUNNING, and the reply to MOTION START (R58). -/
def State.startDone (s : State) (c : Capture) : State :=
  let s := s.withMot s.mot.run
  match s.mot.starting with
  | none => s
  | some (tag, clamped) =>
    (s.withMot { s.mot with starting := none }).replyTo 0x30 tag (okOr clamped)
      ([s.mot.lastIdentity.getD 0] ++ le16 s.mot.seq ++ le32 c.tbc)

/-! ## The wake filters (R76, R77) -/

/-- The magnitude of a value against its reference, formed exactly. -/
def offset (v : Int) (ref : Int) : Nat := (v - ref).natAbs

/-- The sample exceeds the filter on some axis of its set (R76). -/
def WakeFilter.exceeds (f : WakeFilter) (rate : Axes W16) (accel ref : Axes W16) : Bool :=
  (f.axes.getLsbD 0 && f.threshold < offset rate.x.toInt 0) ||
  (f.axes.getLsbD 1 && f.threshold < offset rate.y.toInt 0) ||
  (f.axes.getLsbD 2 && f.threshold < offset rate.z.toInt 0) ||
  (f.axes.getLsbD 3 && f.threshold < offset accel.x.toInt ref.x.toInt) ||
  (f.axes.getLsbD 4 && f.threshold < offset accel.y.toInt ref.y.toInt) ||
  (f.axes.getLsbD 5 && f.threshold < offset accel.z.toInt ref.z.toInt)

/-- One filter at a sample: the filter after it, and whether it matches (R76). -/
def WakeFilter.eval (f : WakeFilter) (exceeding : Bool) : WakeFilter × Bool :=
  if !f.enabled then (f, false)
  else if !exceeding then ({ f with counter := 0 }, false)
  else if f.runCount ≤ f.counter + 1 then ({ f with counter := 0 }, true)
  else ({ f with counter := f.counter + 1 }, false)

/-- A sample in DOZE_WATCH during DOZE: the filters, and one wake event for those that match (R76). -/
def State.filterSample (s : State) (c : Capture) (rate accel : Axes W16) : State :=
  let ref := s.mot.accelRef.getD { x := 0, y := 0, z := 0 }
  let rs := s.mot.filters.map (fun f => f.eval (f.exceeds rate accel ref))
  let s := s.withMot { s.mot with filters := rs.map (·.1) }
  if rs.any (·.2) then s.beginWake .motionFilter (packBits (rs.map (·.2))) c.tbc else s

/-- A sample read in DOZE_WATCH: the bias step, and the filters while the device is in DOZE (R62, R74, R76). -/
def State.watchSample (s : State) (c : Capture) (raw : RawSample) : State :=
  let g := biased raw s.mot.bias
  let s := s.count .saturation g.2
  if s.mdc.device = .doze then s.filterSample c g.1 (rawAccel raw) else s

/-- The sample read completes: the slot is released and the sample processed as one event (R61). -/
def State.sampleRead (s : State) (raw : RawSample) : State :=
  match s.mot.reading with
  | none => s.withMot s.mot.busNext
  | some c =>
    let s := (s.withMot { s.mot.busNext with reading := none }).withFtb { s.ftb with slot := none }
    match s.mot.state with
    | .off => s
    | .starting => (s.processSample c raw).startDone c
    | .running => s.processSample c raw
    | .stalled =>
      let s := s.processSample c raw
      (s.withMot s.mot.run).notify (.motion true c.tbc s.mot.seq)
    | .dozeWatch => s.watchSample c raw

/-- SAMPLE_READ_COMPLETE (R61). -/
def execSampleReadComplete (raw : RawSample) (s : State) : Host.Outcome State Fault Refusal :=
  occur (fun s => s.mot.busDone .sampleRead) (fun s => s.sampleRead raw) s

/-! ## Rate and power-down writes (R74, R75) -/

/-- A rate write completes: DOZE_WATCH at doze entry, RUNNING at a wake, and the order is answered (R61, R74, R75). -/
def State.rateWritten (s : State) : State :=
  let watch := s.mot.busDone .rateWatch
  let wanted := s.mot.busWanted
  let answers := s.mot.busAnswers
  let m := { s.mot.busNext with sensor := .rate s.mot.busRate }
  let s := s.withMot (if !wanted then m else if watch then { m with state := .dozeWatch } else m.run)
  if answers then s.motionAnswer else s

/-- RATE_WRITE_COMPLETE (R74, R75). -/
def execRateWriteComplete (s : State) : Host.Outcome State Fault Refusal :=
  occur (fun s => s.rateWriteIsDue) (fun s => s.rateWritten) s

/-- The power-down write completes, and a doze-entry order from STARTING is answered (R61, R74). -/
def State.poweredDown (s : State) : State :=
  let answers := s.mot.busAnswers
  let s := s.withMot { s.mot.busNext with sensor := .poweredDown }
  if answers then s.motionAnswer else s

/-- POWER_DOWN_WRITE_COMPLETE (R74). -/
def execPowerDownWriteComplete (s : State) : Host.Outcome State Fault Refusal :=
  occur (fun s => s.mot.busDone .powerDown) (fun s => s.poweredDown) s

/-! ## Stall (R66) -/

/-- The stall timer expires (R66). -/
def State.stall (s : State) : State :=
  let s := s.completeDraft.abortCalibration
  (s.withMot { s.mot with state := .stalled, stallLeft := none }).notify (.motion false s.ftb.tbc s.mot.seq)

/-- STALL_TIMEOUT (R66). -/
def execStallTimeout (s : State) : Host.Outcome State Fault Refusal :=
  occur (fun s => s.stallTimeoutIsDue) (fun s => s.stall) s

/-! ## BIAS (R70) -/

/-- A signed bounding field over the value it replaces. -/
def signed16 (lo hi : Int) (v : Option W16) (old : Int) : Int :=
  match v with
  | none => old
  | some x => clampTo lo hi x.toInt

/-- A signed field that was given and is brought into its range. -/
def signedClamped16 (lo hi : Int) (v : Option W16) : Bool := v.any (fun x => x.toInt < lo || hi < x.toInt)

/-- BIAS SET's effect and status (R70). -/
def State.setBias (s : State) (tag : Byte) (f : BiasFields) : State :=
  if s.mot.cal.isSome then s.replyTo 0x33 tag .busy []
  else if f.stray then s.replyTo 0x33 tag .badValue []
  else
    let b := s.mot.bias
    (s.withMot { s.mot with bias :=
      { x := signed16 (-2048) 2047 f.x b.x, y := signed16 (-2048) 2047 f.y b.y, z := signed16 (-2048) 2047 f.z b.z } }
    ).replyTo 0x33 tag (okOr (signedClamped16 (-2048) 2047 f.x || signedClamped16 (-2048) 2047 f.y ||
      signedClamped16 (-2048) 2047 f.z)) []

/-- BIAS SET (R70). -/
def execBiasSet (tag : Byte) (f : BiasFields) (s : State) : Host.Outcome State Fault Refusal :=
  execute (.biasSet tag f) (fun s => s.setBias tag f) s

/-- BIAS GET (R70). -/
def execBiasGet (tag : Byte) (s : State) : Host.Outcome State Fault Refusal :=
  execute (.biasGet tag) (fun s => s.replyTo 0x34 tag .ok (biasBytes s.mot.bias)) s

/-! ## RECENTRE (R73) -/

/-- Three angles added, modulo 2^32. -/
def Angles.plus (a b : Angles W32) : Angles W32 :=
  { yaw := a.yaw + b.yaw, pitch := a.pitch + b.pitch, roll := a.roll + b.roll }

/-- The offsets of a recentre: new minus old, modulo 2^32 (R73). -/
def recentreOffsets (acc : Angles W32) (f : RecentreFields) : Angles W32 :=
  if f.mode = 0 then { yaw := 0 - acc.yaw, pitch := 0 - acc.pitch, roll := 0 - acc.roll }
  else if f.mode = 1 then { yaw := f.yaw - acc.yaw, pitch := f.pitch - acc.pitch, roll := f.roll - acc.roll }
  else { yaw := f.yaw, pitch := f.pitch, roll := f.roll }

/-- The offsets added to the accumulators and to every ring entry (R73). -/
def Mot.recentre (m : Mot) (o : Angles W32) : Mot :=
  { m with acc := m.acc.plus o, ring := m.ring.map (fun e => { e with acc := e.acc.plus o }) }

/-- RECENTRE's effect (R73). -/
def State.recentre (s : State) (tag : Byte) (f : RecentreFields) : State :=
  if !(f.mode = 0 || f.mode = 1 || f.mode = 2) then s.replyTo 0x36 tag .badValue []
  else
    let o := recentreOffsets s.mot.acc f
    (s.withMot (s.mot.recentre o)).replyTo 0x36 tag .ok
      (angleBytes o ++ [boolByte s.mot.integrated] ++ le16 (if s.mot.integrated then s.mot.seq else 0))

/-- RECENTRE (R73). -/
def execRecentre (tag : Byte) (f : RecentreFields) (s : State) : Host.Outcome State Fault Refusal :=
  execute (.recentre tag f) (fun s => s.recentre tag f) s

/-! ## The WAKEFILTER command (R77) -/

/-- A bit above the six axes is set in an axis set (R166). -/
def strayAxes (axes : Byte) : Bool := axes.getLsbD 6 || axes.getLsbD 7

/-- WAKEFILTER SET refuses the fields (R77, R166). -/
def badFilter (f : WakeFilterFields) : Bool :=
  3 < f.index.toNat || !(f.enable = 0 || f.enable = 1) || strayAxes f.axes || (f.enable = 1 && f.axes = 0)

/-- The filter a WAKEFILTER SET writes: its five fields, and the run counter cleared (R77). -/
def writtenFilter (f : WakeFilterFields) : WakeFilter :=
  { enabled := f.enable = 1, axes := f.axes, threshold := field 1 32767 f.threshold.toNat,
    runCount := field 1 64 f.runCount.toNat, counter := 0 }

/-- WAKEFILTER SET's effect (R77). -/
def State.setFilter (s : State) (tag : Byte) (f : WakeFilterFields) : State :=
  if badFilter f then s.replyTo 0x37 tag .badValue []
  else (s.withMot { s.mot with
      filters := s.mot.filters.set f.index.toNat (writtenFilter f) }).replyTo 0x37 tag
    (okOr (outside 1 32767 f.threshold.toNat || outside 1 64 f.runCount.toNat)) []

/-- WAKEFILTER SET (R77). -/
def execWakefilterSet (tag : Byte) (f : WakeFilterFields) (s : State) : Host.Outcome State Fault Refusal :=
  execute (.wakefilterSet tag f) (fun s => s.setFilter tag f) s

/-- One filter in the WAKEFILTER GET reply (section 10.6). -/
def WakeFilter.bytes (f : WakeFilter) : List Byte :=
  [boolByte f.enabled, f.axes] ++ num16 f.threshold ++ num8 f.runCount ++ num8 f.counter

/-- WAKEFILTER GET (R77). -/
def execWakefilterGet (tag : Byte) (s : State) : Host.Outcome State Fault Refusal :=
  execute (.wakefilterGet tag) (fun s => s.replyTo 0x38 tag .ok (s.mot.filters.flatMap WakeFilter.bytes)) s

end Sys2Proof.Machine
end

