-- ==== Sys2Proof/Machine/Mode.lean ====
section
/-! DEFINITION. The Mode Controller (sections 8.1, 8.3 to 8.5): the MODE command, panel power, the off-head timer, the
proximity line and the wake source record. -/

namespace Sys2Proof.Machine

/-! ## MODE (R134) -/

/-- A transition is in progress (R134). -/
def Device.moving : Device → Bool
  | .starting | .stopping | .dozeEntry | .waking => true
  | .standby | .run | .doze => false

/-- What MODE's table decides for a target. -/
inductive ModeVerdict where
  | refused (status : Status)
  /-- The target equals the device state: replied OK at once. -/
  | already
  | accepted
  deriving DecidableEq, Repr

/-- The table of R134, first matching row first; targets are 0 RUN, 1 STANDBY, 2 DOZE and 3 WAKE. -/
def modeVerdict (device : Device) (gov : GovState) (target : Byte) : ModeVerdict :=
  if device.moving then .refused .busy
  else if 3 < target.toNat then .refused .badValue
  else if (target = 0 ∧ device = .run) ∨ (target = 1 ∧ device = .standby) ∨ (target = 2 ∧ device = .doze) then .already
  else if target = 3 ∧ device ≠ .doze then .refused .wrongState
  else if (target = 0 ∨ target = 1) ∧ device = .doze then .refused .wrongState
  else if target = 0 ∧ gov = .powerFail then .refused .wrongState
  else .accepted

/-- An accepted MODE RUN: STARTING, and the panels power up (R135). -/
def State.startRun (s : State) : State :=
  let m : Mdc := { s.mdc.newStrands with device := .starting }
  s.withMdc m.powerUp

/-- An accepted MODE STANDBY: STOPPING, the off-head timer stopped, and the stop request sent (R136). -/
def State.startStop (s : State) : State :=
  (s.withMdc { s.mdc.newStrands with device := .stopping, offHead := none }).withScn s.scn.stopRequest

/-- The transition of an accepted target. -/
def State.startMode (s : State) (target : Byte) : State :=
  if target = 0 then s.startRun
  else if target = 1 then s.startStop
  else if target = 2 then s.enterDoze
  else s.beginWake .command 0 s.ftb.tbc

/-- MODE with a target byte: refused, replied OK at once, or accepted with its reply deferred (R134). -/
def State.mode (s : State) (tag target : Byte) : State :=
  match modeVerdict s.mdc.device s.gov.state target with
  | .refused st => s.replyTo 0x22 tag st []
  | .already => s.replyTo 0x22 tag .ok (s.modeData false)
  | .accepted => (s.withMdc { s.mdc with modeTag := some tag }).startMode target

/-- MODE RUN (R135), and a target code outside the four. -/
def execModeRun (tag target : Byte) (s : State) : Host.Outcome State Fault Refusal :=
  execute (.modeRun tag target) (fun s => s.mode tag target) s

/-- MODE STANDBY (R136). -/
def execModeStandby (tag : Byte) (s : State) : Host.Outcome State Fault Refusal :=
  execute (.modeStandby tag) (fun s => s.mode tag 1) s

/-- MODE DOZE (R141). -/
def execModeDoze (tag : Byte) (s : State) : Host.Outcome State Fault Refusal :=
  execute (.modeDoze tag) (fun s => s.mode tag 2) s

/-- MODE WAKE (R143). -/
def execModeWake (tag : Byte) (s : State) : Host.Outcome State Fault Refusal :=
  execute (.modeWake tag) (fun s => s.mode tag 3) s

/-! ## Panel power (R135, R136, R141, R144) -/

/-- The panels are ON, and the Scanout Engine gets its start request. -/
def State.panelsOn (s : State) : State :=
  (s.withMdc { s.mdc with panel := .on }).withScn s.scn.startRequest

/-- PANEL_POWER_UP_DONE (R135, R144). -/
def execPanelPowerUpDone (s : State) : Host.Outcome State Fault Refusal :=
  occur (fun s => s.panelUpIsDue) (fun s => s.panelsOn) s

/-- The panels are OFF: STOPPING ends in STANDBY with its reply (R136), and in DOZE_ENTRY the panel strand has
finished (R141). -/
def State.panelsOff (s : State) : State :=
  let s := s.withMdc { s.mdc with panel := .off }
  if s.mdc.device = .stopping then
    let s := s.withMdc { s.mdc with device := .standby }
    match s.mdc.modeTag with
    | some tag => s.answerMode tag false
    | none => s
  else if s.mdc.device = .dozeEntry then (s.withMdc { s.mdc with donePanels := true }).finishDoze
  else s

/-- PANEL_POWER_DOWN_DONE (R136, R141). -/
def execPanelPowerDownDone (s : State) : Host.Outcome State Fault Refusal :=
  occur (fun s => s.panelDownIsDue) (fun s => s.panelsOff) s

/-! ## Off-head timer and proximity line (R143, R145, R146) -/

/-- OFF_HEAD_TIMEOUT (R145). -/
def execOffHeadTimeout (s : State) : Host.Outcome State Fault Refusal :=
  occur (fun s => s.offHeadIsDue) (fun s => s.offHeadExpires) s

/-- An edge of the proximity line at the Mode Controller: an on-head edge in DOZE is a wake event (R143), and in RUN
the off-head timer starts or stops (R145); elsewhere it is ignored. -/
def State.proximityEdge (s : State) : State :=
  if s.mdc.device = .doze && s.mdc.onHead then s.beginWake .proximity 0 s.ftb.tbc else s.refreshOffHead

/-- PROXIMITY_EDGE (R143, R145). A level that the line already has is no edge. -/
def execProximityEdge (high : Bool) (s : State) : Host.Outcome State Fault Refusal :=
  let t := s.withMdc { s.mdc with proximityHigh := high }
  .next (if !s.mdc.inReset && s.mdc.proximityHigh != high then t.proximityEdge else t)

/-- The fields of MODE AUTODOZE written (R146). -/
def Mdc.setAutodoze (m : Mdc) (f : AutodozeFields) : Mdc :=
  { m with
    autoDoze := switch f.autoDoze m.autoDoze,
    delay := (match f.delay with | none => m.delay | some d => field 1 60 d.toNat),
    onHigh := (match f.polarity with | none => m.onHigh | some p => decide (p = 0)) }

/-- MODE AUTODOZE's effect and status (R146): the timer is started or stopped by the line's new reading, and expires
where the delay has been brought to or below its elapsed time (R145). -/
def State.setAutodoze (s : State) (tag : Byte) (f : AutodozeFields) : State :=
  if f.stray || badSwitch f.autoDoze || badSwitch f.polarity then s.replyTo 0x23 tag .badValue []
  else
    let t := ((s.withMdc (s.mdc.setAutodoze f)).refreshOffHead).replyTo 0x23 tag
      (okOr (f.delay.any (fun d => outside 1 60 d.toNat))) []
    if t.offHeadIsDue then t.offHeadExpires else t

/-- MODE AUTODOZE (R146). -/
def execModeAutodoze (tag : Byte) (f : AutodozeFields) (s : State) : Host.Outcome State Fault Refusal :=
  execute (.modeAutodoze tag f) (fun s => s.setAutodoze tag f) s

/-- Data of the MODE GET reply (R146). -/
def Mdc.getData (m : Mdc) (hold : Bool) : List Byte :=
  [packBits [m.prior.isSome, m.offHead.isSome, m.device.moving], m.device.code, m.panel.code,
    ((m.prior.map Prior.device).map Device.code).getD 0,
    if m.device.moving then packBits [m.donePanels, m.doneAudio, m.doneMotion, m.doneLane] else 0,
    boolByte m.autoDoze] ++ num8 m.delay ++ [boolByte (!m.onHigh), boolByte m.onHead] ++
    num32 (m.offHead.getD 0) ++ [boolByte hold]

/-- MODE GET (R146). -/
def execModeGet (tag : Byte) (s : State) : Host.Outcome State Fault Refusal :=
  execute (.modeGet tag) (fun s => s.replyTo 0x24 tag .ok (s.mdc.getData s.plr.hold)) s

/-! ## The wake source record (R147) -/

/-- Data of the WAKESOURCE READ reply (R147). -/
def wakeRecordBytes : Option WakeRecord → List Byte
  | none => List.replicate 7 0
  | some r => [1, r.kind.code, r.filters] ++ le32 r.tbc

/-- WAKESOURCE READ (R147). -/
def execWakesourceRead (tag : Byte) (s : State) : Host.Outcome State Fault Refusal :=
  execute (.wakesourceRead tag) (fun s => s.replyTo 0x25 tag .ok (wakeRecordBytes s.mdc.wakeRecord)) s

/-- WAKESOURCE CLEAR (R147). -/
def execWakesourceClear (tag : Byte) (s : State) : Host.Outcome State Fault Refusal :=
  execute (.wakesourceClear tag) (fun s =>
    (s.withMdc { s.mdc with wakeRecord := none }).replyTo 0x26 tag .ok []) s

end Sys2Proof.Machine
end

