-- ==== Sys2Proof/Machine/Monitor.lean ====
section
/-! DEFINITION. The Supply Monitor (sections 7.1 to 7.7): conversions, result entries, watch limits, rounds, monitor
reports, and the ROUND and MONITOR commands. -/

namespace Sys2Proof.Machine

/-! ## Values (section 7.1) -/

/-- The value of an input from a converter code. -/
def inputValue (input : Nat) (code : BitVec 12) : Int :=
  let c := code.toNat
  if input = 0 then ((c * 5 : Nat) : Int)
  else if input ≤ 4 then ((c * 5 / 4 : Nat) : Int)
  else ((c * 5 / 4 : Nat) : Int) - 500

/-- The least value of an input's range. -/
def inputLeast (input : Nat) : Int := if input ≤ 4 then 0 else -500

/-- The greatest value of an input's range. -/
def inputGreatest (input : Nat) : Int := if input = 0 then 20475 else if input ≤ 4 then 5118 else 4618

/-! ## Result entries (R116) -/

/-- A completed conversion at its entry, in the order of R116. -/
def Entry.update (x : Entry) (value : Int) (tbc : W32) : Entry :=
  { value := value, tbc := some tbc,
    least := some (match x.least with | none => value | some v => min v value),
    greatest := some (match x.greatest with | none => value | some v => max v value),
    unreported := true, overwritten := x.overwritten || x.unreported }

/-- An entry set back after a report has carried it. -/
def Entry.carried (x : Entry) : Entry :=
  { x with least := none, greatest := none, unreported := false, overwritten := false }

/-- The entry of an input. -/
def Mon.entry (m : Mon) (input : Nat) : Entry := m.entries.getD input Entry.empty

/-- The monitor with the entry of an input replaced. -/
def Mon.setEntry (m : Mon) (input : Nat) (x : Entry) : Mon := { m with entries := m.entries.set input x }

/-! ## Watch limits (R121) -/

/-- A set limit at a new value that is outside it or not: the limit after the check, and whether it notifies. -/
def Limit.check (x : Limit) (beyond : Bool) : Limit × Bool :=
  if beyond then ({ x with armed := false }, x.armed) else ({ x with armed := true }, false)

/-- The limits of an input at a new value: the limits after the check, and whether the low and the high one notify. -/
def WatchLimits.check (x : WatchLimits) (value : Int) : WatchLimits × Bool × Bool :=
  let low := x.low.map (fun l => l.check (decide (value < l.value)))
  let high := x.high.map (fun l => l.check (decide (l.value < value)))
  ({ low := low.map (·.1), high := high.map (·.1) }, low.any (·.2), high.any (·.2))

/-- The limits of an input. -/
def Mon.limit (m : Mon) (input : Nat) : WatchLimits := m.limits.getD input { low := none, high := none }

/-- The watch check of a conversion (R121). -/
def State.watchCheck (s : State) (input : Nat) (value : Int) (tbc : W32) : State :=
  let r := (s.mon.limit input).check value
  let s := s.withMon { s.mon with limits := s.mon.limits.set input r.1 }
  let s := if r.2.1 then s.notify (.watch input false value tbc) else s
  if r.2.2 then s.notify (.watch input true value tbc) else s

/-! ## Rounds (R115, R117, R118) -/

/-- A round begins with the conversion of its first input, 50 µs long. -/
def Mon.startRound (m : Mon) (kind : RoundKind) (first last : Nat) : Mon :=
  { m with round := some { kind := kind, input := first, first := first, last := last, left := 50, done := [] } }

/-- The next round of the round queue: a pending frame round first, then a waiting on-demand round, else IDLE. -/
def Mon.startNext (m : Mon) : Mon :=
  if m.pendingFrame then ({ m with pendingFrame := false } : Mon).startRound .frame 0 7
  else match m.waiting with
    | some w => ({ m with waiting := none } : Mon).startRound w.kind w.first w.last
    | none => { m with round := none }

/-- The EC3 mark at the Supply Monitor (R117). -/
def State.monitorMark (s : State) : State :=
  match s.mon.round with
  | none => s.withMon (s.mon.startRound .frame 0 7)
  | some r =>
    if r.kind = .frame ∨ s.mon.pendingFrame then s.count .roundsSkipped 1
    else s.withMon { s.mon with pendingFrame := true }

/-! ## Monitor reports (R122) -/

/-- The item a report carries for an input. -/
def Mon.item (m : Mon) (input : Nat) : MonItem :=
  let x := m.entry input
  { input := input, value := x.value, tbc := x.tbc, least := x.least, greatest := x.greatest,
    overwritten := x.overwritten }

/-- The inputs of the report mask, in input order. -/
def Mon.maskInputs (m : Mon) : List Nat := (List.range 8).filter (fun i => m.mask.getLsbD i)

/-- A monitor report is formed and offered; with an empty mask none is formed and no entry is touched (R122). -/
def State.formReport (s : State) (kind : RoundKind) : State :=
  if s.mon.mask = 0 then s
  else
    let inputs := s.mon.maskInputs
    let report : MonReport := { kind := kind, tbc := s.ftb.tbc, items := inputs.map s.mon.item }
    let entries := s.mon.entries.zipIdx.map (fun xi => if s.mon.mask.getLsbD xi.2 then xi.1.carried else xi.1)
    (s.withMon { s.mon with entries := entries }).offerMonitor report

/-- A frame round counts toward the report divider (R122). -/
def State.countRound (s : State) : State :=
  if s.mon.divider = 0 then s
  else if s.mon.divider ≤ s.mon.divCount + 1 then (s.withMon { s.mon with divCount := 0 }).formReport .frame
  else s.withMon { s.mon with divCount := s.mon.divCount + 1 }

/-! ## Round ends (R118, R119) -/

/-- The value a round converted for an input. -/
def valueOf (done : List Reading) (input : Nat) : Int := ((done.find? (fun x => x.input = input)).map (·.value)).getD 0

/-- One input in the ROUND ONE_SHOT reply (section 10.6). -/
def Reading.bytes (x : Reading) : List Byte := num8 x.input ++ int16 x.value ++ le32 x.tbc

/-- Data of the ROUND ONE_SHOT reply (section 10.6). -/
def roundData (done : List Reading) : List Byte := num8 done.length ++ done.flatMap Reading.bytes

/-- The deferred reply to ROUND ONE_SHOT (R119, R120). -/
def State.answerRound (s : State) (status : Status) (done : List Reading) : State :=
  match s.mon.oneShotTag with
  | none => s
  | some tag => (s.withMon { s.mon with oneShotTag := none }).replyTo 0x53 tag status (roundData done)

/-- The end work of a round by its kind. -/
def State.roundWork (s : State) (r : Round) (done : List Reading) : State :=
  match r.kind with
  | .frame =>
    (s.evaluate (valueOf done 0).toNat (valueOf done 1).toNat (valueOf done 7) s.ftb.tbc).countRound
  | .oneShot => s.answerRound .ok done
  | .continuous =>
    let s := s.formReport .continuous
    if s.mon.series then
      s.withMon { s.mon with waiting := some { kind := .continuous, first := r.first, last := r.last } }
    else s

/-- The end of a round: its end work, then the next round in the same event. -/
def State.endRound (s : State) (r : Round) (done : List Reading) : State :=
  let s := s.roundWork r done
  s.withMon s.mon.startNext

/-! ## Conversions (R115) -/

/-- A conversion completes: entry, watch check, undervoltage sample, and the next conversion or the round's end. -/
def State.conversion (s : State) (code : BitVec 12) : State :=
  match s.mon.round with
  | none => s
  | some r =>
    let v := inputValue r.input code
    let tbc := s.ftb.tbc
    let s := s.withMon (s.mon.setEntry r.input ((s.mon.entry r.input).update v tbc))
    let s := s.watchCheck r.input v tbc
    let s := if r.input = 0 then s.undervoltage v.toNat tbc else s
    let done := r.done ++ [{ input := r.input, value := v, tbc := tbc }]
    if r.input < r.last then
      s.withMon { s.mon with round := some { r with input := r.input + 1, left := 50, done := done } }
    else s.endRound r done

/-- CONVERSION_COMPLETE (R115). -/
def execConversionComplete (code : BitVec 12) (s : State) : Host.Outcome State Fault Refusal :=
  occur (fun s => s.conversionIsDue) (fun s => s.conversion code) s

/-! ## ROUND (R119) -/

/-- On-demand work exists: a round running or waiting, or a series in force. -/
def Mon.onDemand (m : Mon) : Bool :=
  m.round.any (fun r => r.kind ≠ .frame) || m.waiting.isSome || m.series

/-- An accepted on-demand round starts at once when the converter is IDLE, and otherwise waits (R118). -/
def Mon.demand (m : Mon) (kind : RoundKind) (first last : Nat) : Mon :=
  match m.round with
  | none => m.startRound kind first last
  | some _ => { m with waiting := some { kind := kind, first := first, last := last } }

/-- The verdict of ROUND's checks in their order; none where it is accepted. -/
def roundRefusal (s : State) (mode first last : Byte) : Option Status :=
  if s.mdc.dozing then some .wrongState
  else if s.mon.onDemand then some .busy
  else if 1 < mode.toNat || 7 < first.toNat || 7 < last.toNat || last.toNat < first.toNat then some .badValue
  else none

/-- ROUND's effect: ONE_SHOT is deferred, CONTINUOUS begins a series and is replied at once. -/
def State.round (s : State) (tag mode first last : Byte) : State :=
  match roundRefusal s mode first last with
  | some st => s.replyTo 0x53 tag st []
  | none =>
    if mode = 0 then
      s.withMon (({ s.mon with oneShotTag := some tag } : Mon).demand .oneShot first.toNat last.toNat)
    else
      (s.withMon (({ s.mon with series := true } : Mon).demand .continuous first.toNat last.toNat)).replyTo 0x53 tag
        .ok []

/-- ROUND ONE_SHOT (R119). -/
def execRoundOneShot (tag mode first last : Byte) (s : State) : Host.Outcome State Fault Refusal :=
  execute (.roundOneShot tag mode first last) (fun s => s.round tag mode first last) s

/-- ROUND CONTINUOUS (R119). -/
def execRoundContinuous (tag first last : Byte) (s : State) : Host.Outcome State Fault Refusal :=
  execute (.roundContinuous tag first last) (fun s => s.round tag 1 first last) s

/-! ## MONITOR STOP (R120) -/

/-- A running on-demand round ends without its end work: a ONE_SHOT is replied ABORTED. -/
def State.abortRound (s : State) : State :=
  match s.mon.round with
  | none => s
  | some r => if r.kind = .oneShot then s.answerRound .aborted r.done else s

/-- A waiting round is removed: a ONE_SHOT is replied ABORTED with no values. -/
def State.abortWaiting (s : State) : State :=
  let t := s.withMon { s.mon with waiting := none }
  if s.mon.waiting.any (fun w => w.kind = .oneShot) then t.answerRound .aborted [] else t

/-- What MONITOR STOP does, as one event. -/
def State.stopMonitor (s : State) : State :=
  let running := s.mon.round.any (fun r => r.kind ≠ .frame)
  let s := s.abortRound.abortWaiting
  let s := s.withMon { s.mon with series := false }
  if running then s.withMon s.mon.startNext else s

/-- MONITOR STOP (R120): always replied OK. -/
def execMonitorStop (tag : Byte) (s : State) : Host.Outcome State Fault Refusal :=
  execute (.monitorStop tag) (fun s => s.stopMonitor.replyTo 0x51 tag .ok []) s

/-! ## MONITOR SET (R124) -/

/-- A limit of an item, absent or brought into its input's range. -/
def itemLimit (input : Nat) (given : Bool) (v : W16) : Option Int :=
  if given then some (clampTo (inputLeast input) (inputGreatest input) v.toInt) else none

/-- A limit that was given lies outside its input's range. -/
def itemOutside (input : Nat) (given : Bool) (v : W16) : Bool :=
  given && (v.toInt < inputLeast input || inputGreatest input < v.toInt)

/-- The two limits an item sets, after clamping. -/
def itemLimits (x : LimitItem) : Option Int × Option Int :=
  (itemLimit x.input.toNat (x.presence.getLsbD 0) x.low, itemLimit x.input.toNat (x.presence.getLsbD 1) x.high)

/-- A value of the item is brought into its range. -/
def itemClamps (x : LimitItem) : Bool :=
  itemOutside x.input.toNat (x.presence.getLsbD 0) x.low || itemOutside x.input.toNat (x.presence.getLsbD 1) x.high

/-- The low limit, as clamped, is greater than the high limit. -/
def itemCrossed (x : LimitItem) : Bool :=
  match itemLimits x with
  | (some low, some high) => decide (high < low)
  | _ => false

/-- Two items name the same input. -/
def repeated : List Byte → Bool
  | [] => false
  | x :: xs => xs.contains x || repeated xs

/-- The items refuse the command BAD_VALUE: an input above 7, a repeated input, or a stray presence bit (R166). -/
def badItems (items : List LimitItem) : Bool :=
  items.any (fun x => 7 < x.input.toNat || 3 < x.presence.toNat) || repeated (items.map (·.input))

/-- The verdict of MONITOR SET's checks in their order; none where it is accepted. -/
def monitorRefusal (s : State) (f : MonitorFields) : Option Status :=
  if s.mon.onDemand then some .busy
  else if f.stray || badItems f.items then some .badValue
  else if f.items.any itemCrossed then some .conflict
  else none

/-- A limit as it is written: armed. -/
def writtenLimit (v : Option Int) : Option Limit := v.map (fun x => { value := x, armed := true })

/-- An item written: both limits of its input. -/
def Mon.setItem (m : Mon) (x : LimitItem) : Mon :=
  let l := itemLimits x
  { m with limits := m.limits.set x.input.toNat ({ low := writtenLimit l.1, high := writtenLimit l.2 } : WatchLimits) }

/-- The parts of MONITOR SET written. -/
def Mon.set (m : Mon) (f : MonitorFields) : Mon :=
  let m : Mon := { m with mask := f.mask.getD m.mask, divider := field16 0 255 f.divider m.divider,
                          divCount := if f.divider.isSome then 0 else m.divCount }
  f.items.foldl Mon.setItem m

/-- MONITOR SET's effect and status. -/
def State.setMonitor (s : State) (tag : Byte) (f : MonitorFields) : State :=
  match monitorRefusal s f with
  | some st => s.replyTo 0x50 tag st []
  | none =>
    (s.withMon (s.mon.set f)).replyTo 0x50 tag (okOr (clamped16 0 255 f.divider || f.items.any itemClamps)) []

/-- MONITOR SET (R124). -/
def execMonitorSet (tag : Byte) (f : MonitorFields) (s : State) : Host.Outcome State Fault Refusal :=
  execute (.monitorSet tag f) (fun s => s.setMonitor tag f) s

/-! ## MONITOR GET (R125) -/

/-- Converter state code and the input being converted (section 10.6). -/
def converterBytes : Option Round → List Byte
  | none => [0, 0]
  | some r => [if r.kind = .frame then 1 else 2] ++ num8 r.input

/-- Waiting on-demand round with its range (section 10.6). -/
def waitingBytes : Option WaitingRound → List Byte
  | none => [0, 0, 0]
  | some w => [if w.kind = .oneShot then 1 else 2] ++ num8 w.first ++ num8 w.last

/-- One entry item (section 10.6). -/
def Entry.bytes (x : Entry) : List Byte :=
  [x.flagByte] ++ int16 x.value ++ tbcField x.tbc ++ int16 (x.least.getD 0) ++ int16 (x.greatest.getD 0)

/-- One limit item (section 10.6). -/
def WatchLimits.bytes (x : WatchLimits) : List Byte :=
  [x.flagByte] ++ int16 ((x.low.map (·.value)).getD 0) ++ int16 ((x.high.map (·.value)).getD 0)

/-- Data of the MONITOR GET reply (R125). -/
def State.monitorData (s : State) : List Byte :=
  let m := s.mon
  converterBytes m.round ++ [boolByte m.pendingFrame] ++ waitingBytes m.waiting ++ [boolByte m.series, m.mask] ++
    num16 m.divider ++ num8 m.divCount ++ [boolByte s.smp.monSlot.isSome] ++ m.entries.flatMap Entry.bytes ++
    m.limits.flatMap WatchLimits.bytes

/-- MONITOR GET (R125). -/
def execMonitorGet (tag : Byte) (s : State) : Host.Outcome State Fault Refusal :=
  execute (.monitorGet tag) (fun s => s.replyTo 0x52 tag .ok s.monitorData) s

end Sys2Proof.Machine
end

