-- ==== Sys2Proof/Machine/Resets.lean ====
section
/-! DEFINITION. The resets and the sideband signal detector (R3, R132, R148, R162). -/

namespace Sys2Proof.Machine

/-- RESET_RELEASE (R3, R132): a part held in reset is released, and its first frame begins with FC, FS and the frame
start TBC at 0 and both sets at the defaults. The line signal of the picture lane is read as it stands now (R39). -/
def execResetRelease (s : State) : Host.Outcome State Fault Refusal :=
  .next (if s.mdc.inReset then s.resetBlocks s.mdc.resetCause s.mdc.wakeRecord false else s)

/-- POWER_ON_RESET (R148): every block at its reset values, the cause POWER_ON, the wake source record cleared. -/
def execPowerOnReset (s : State) : Host.Outcome State Fault Refusal :=
  .next (s.resetBlocks .powerOn none true)

/-- SUPPLY_DIP_RESET (R132): the part is held in reset, whatever it was doing. -/
def execSupplyDipReset (s : State) : Host.Outcome State Fault Refusal :=
  .next (s.resetBlocks .supplyDip none true)

/-- The signal was present after the last reset and before an absence that has just run 50 ms: it was, where that reset
lies 50 ms back, for later than that reset the absence began (R148, log entry 14). -/
def Mdc.lossResets (m : Mdc) : Bool := !m.inReset && m.sidebandSignal && 50000 ≤ m.sidebandTime

/-- The signal became present less than 50 ms ago, so that no absence can have run 50 ms (R148). -/
def Mdc.lossTooEarly (m : Mdc) : Bool := !m.inReset && m.sidebandSeen && m.sidebandTime < 50000

/-- The line is absent. -/
def State.sidebandAbsent (s : State) : State := s.withMdc { s.mdc with sidebandSignal := false }

/-- SIDEBAND_LOSS (R148): the line signal has been absent for 50 ms. Where it has been present since the last reset
the part takes a tether reset, which is released at once; otherwise the detector takes none, and before 50 ms can have
run the event does not occur. -/
def execSidebandLoss (s : State) : Host.Outcome State Fault Refusal :=
  .next (if s.mdc.lossResets then s.sidebandAbsent.tetherReset .sidebandLoss
    else if s.mdc.lossTooEarly then s
    else s.sidebandAbsent)

/-- SIDEBAND_SIGNAL_PRESENT (R148): the detector may take a later loss reset, once 50 ms of absence have run. -/
def execSidebandSignalPresent (s : State) : Host.Outcome State Fault Refusal :=
  .next (s.withMdc { s.mdc with sidebandSignal := true, sidebandSeen := true, sidebandTime := 0 })

/-- RESET (R162): a tether reset in its execution event, with no reply. -/
def execReset (tag : Byte) (s : State) : Host.Outcome State Fault Refusal :=
  execute (.reset tag) (fun s => s.tetherReset .resetCommand) s

end Sys2Proof.Machine
end

