-- ==== Sys2Proof/Machine/Scanout.lean ====
section
/-! DEFINITION. The Scanout Engine (chapter 3): takes, line sourcing, the width and the photon centres fixed at a
wrap, frame reports, and the STROBE command. -/

namespace Sys2Proof.Machine

/-! ## Line sourcing (R43 to R45) -/

/-- A pixel: red, green, blue (R165). -/
structure Pixel where
  red : Byte
  green : Byte
  blue : Byte
  deriving DecidableEq, Repr

/-- The black pixel (section 3.3). -/
def Pixel.black : Pixel := { red := 0, green := 0, blue := 0 }

/-- Pixel x of line y of a slice's payload (R165). -/
def pixelAt (content : List Byte) (x y : Nat) : Pixel :=
  let i := (1920 * y + x) * 3
  { red := content.getD i 0, green := content.getD (i + 1) 0, blue := content.getD (i + 2) 0 }

/-- A source pixel of a cell that may not have been found (R44). -/
def sourcePixel (content : Option (List Byte)) (x y : Int) : Pixel :=
  match content with
  | none => Pixel.black
  | some bytes => pixelAt bytes x.toNat y.toNat

/-- The pixel written at column x of panel line y by the band of that line's slice window (R44). -/
def Band.pixel (b : Band) (x y : Nat) : Pixel :=
  let sx : Int := (x : Int) - b.shiftX
  let sy : Int := (y : Int) - b.shiftY
  let base : Int := 120 * (b.index : Int)
  if b.taken.isNone then Pixel.black
  else if sx < 0 ∨ 1919 < sx then Pixel.black
  else if sy < 0 ∨ 1919 < sy then Pixel.black
  else if base ≤ sy ∧ sy ≤ base + 119 then sourcePixel b.taken sx (sy - base)
  else if base - 120 ≤ sy ∧ sy ≤ base - 1 then sourcePixel b.above sx (sy - (base - 120))
  else if base + 120 ≤ sy ∧ sy ≤ base + 239 then sourcePixel b.below sx (sy - (base + 120))
  else Pixel.black

/-- The pixel last written at column x of line y of an eye's panel; none where no window has written the line. -/
def Scn.panelPixel (x : Scn) (e : Eye) (col line : Nat) : Option Pixel :=
  (((x.panel.at e)[line / 120]?).join).map (fun b => b.pixel col line)

/-! ## Takes (R41, R42, R51) -/

/-- The photon centre of an eye in the current frame (R48). -/
def Scn.photonCentre (x : Scn) (e : Eye) : W32 :=
  match x.frame with
  | none => 0
  | some f => (match e with | .left => f.tpL | .right => f.tpR)

/-- The take TBC of slice k (R41). -/
def Ftb.takeTbc (f : Ftb) (k : Nat) : W32 := f.frameStart + BitVec.ofNat 32 (f.live.s + k * f.live.l)

/-- Add a slice outcome entry to the report under assembly (R51). -/
def Scn.addEntry (x : Scn) (e : SliceEntry) : Scn :=
  { x with report := x.report.map (fun d => { d with entries := d.entries.put e.eye (d.entries.at e.eye ++ [e]) }) }

/-- The lines of a window are written to the eye's panel (R43). -/
def Scn.write (x : Scn) (e : Eye) (b : Band) : Scn :=
  { x with panel := x.panel.put e ((x.panel.at e).set b.index (some b)) }

/-- The schedule moves on to the eye's next take (R41). -/
def Scn.advance (x : Scn) (e : Eye) (k : Nat) : Scn := { x with sched := x.sched.put e (some (k + 1)) }

/-- A take that found no cell: a BLANK entry and black lines (R42, R51). -/
def State.takeBlank (s : State) (e : Eye) (k : Nat) : State :=
  s.withScn ((s.scn.addEntry
    { eye := e, index := k, outcome := .blank, tag := none, shiftX := 0, shiftY := 0, flags := ShiftFlags.clear }).write e
    { index := k, taken := none, above := none, below := none, shiftX := 0, shiftY := 0 })

/-- The neighbours of a take, each found or none, for a vertical shift other than 0 (R33). -/
def Slm.neighbours (m : Slm) (e : Eye) (k : Nat) (f : W16) (shiftY : Int) : Option Nat × Option Nat :=
  if shiftY = 0 then (none, none) else (m.upNeighbour e k f, m.downNeighbour e k f)

/-- A take that found a cell: the shift, the neighbours, the entry and the lines (R42 steps 2 to 5). -/
def State.takeCell (s : State) (e : Eye) (k : Nat) (o : TakeOutcome) (i : Nat) (x : Slice) : State :=
  let rs := s.requestShift e x.ref (s.scn.photonCentre e) (s.ftb.takeTbc k)
  let r := rs.1
  let s := rs.2
  let n := s.slm.neighbours e k x.tag r.shiftY
  let s := s.withSlm ((s.slm.pin n.1).pin n.2)
  s.withScn ((s.scn.addEntry
    { eye := e, index := k, outcome := o, tag := some x.tag, shiftX := r.shiftX, shiftY := r.shiftY,
      flags := r.flags }).write e
    { index := k, taken := s.slm.content (some i), above := s.slm.content n.1, below := s.slm.content n.2,
      shiftX := r.shiftX, shiftY := r.shiftY })

/-- One take for an eye and slice index (R42). -/
def State.takeSlice (s : State) (e : Eye) (k : Nat) : State :=
  let t := s.slm.takeRequest e k s.ftb.live.hold s.ftb.tbc
  let s := s.withSlm t.2.2
  let s := match t.2.1.bind (fun i => (s.slm.slice i).map (fun x => (i, x))) with
    | none => s.takeBlank e k
    | some ix => s.takeCell e k t.1 ix.1 ix.2
  s.withScn (s.scn.advance e k)

/-- TAKE (R41, R42). -/
def execTake (e : Eye) (k : Fin 16) (s : State) : Host.Outcome State Fault Refusal :=
  occur (fun s => s.takeIsDue e k) (fun s => s.takeSlice e k) s

/-- The end requests of both eyes (R35, R41). -/
def State.endWindows (s : State) : State :=
  let m := (s.slm.endWindow .left s.ftb.tbc).endWindow .right s.ftb.tbc
  (s.withSlm m).withScn { s.scn with sched := Eyes.both none }

/-- END_REQUEST (R41). -/
def execEndRequest (s : State) : Host.Outcome State Fault Refusal :=
  occur (fun s => s.endRequestIsDue) (fun s => s.endWindows) s

/-- The EC2 mark at the Scanout Engine: in a scanned frame it starts the take schedule (R41). -/
def State.scanMark (s : State) : State :=
  if s.scn.mode = .scanning || s.scn.mode = .stopPending then
    s.withScn { s.scn with sched := Eyes.both (some 0) }
  else s

/-! ## The wrap (R40, R46 to R48, R54) -/

/-- The width in effect (R46). -/
def effectiveWidth (g : Gov) (t : TimingSet) : Nat := if g.state = .powerFail then 0 else min t.wReq g.wLimit

/-- What is fixed for the frame that begins: the width, both photon centres and both pulses (R12, R46, R48). -/
def State.fixFrame (s : State) : State :=
  let t := s.ftb.live
  let w := effectiveWidth s.gov t
  let pl := pulseOf t.cL w t.p
  let pr := pulseOf t.cR w t.p
  let fix : FrameFix :=
    { fs := s.ftb.fs, start := s.ftb.frameStart, p := t.p, wEff := w, clipped := pl.2 || pr.2, gov := s.gov.state,
      wLimit := s.gov.wLimit, tpL := s.ftb.frameStart + BitVec.ofNat 32 t.cL,
      tpR := s.ftb.frameStart + BitVec.ofNat 32 t.cR }
  (s.withFtb { s.ftb with pulse := { l := pl.1, r := pr.1 } }).withScn
    { s.scn with frame := some fix, report := some Draft.empty }

/-- A frame that is not scanned: no width is fixed and no pulse runs (R13, R46). -/
def State.darkFrame (s : State) : State :=
  (s.withFtb { s.ftb with pulse := Eyes.both none }).withScn { s.scn with frame := none, report := none }

/-- The report of the frame that ends is completed and offered (R54). -/
def State.emitReport (s : State) : State :=
  match s.scn.frame, s.scn.report with
  | some fix, some d => s.offerFrame { fix := fix, draft := d, fill := s.aud.fill, replaced := 0 }
  | _, _ => s

/-- A wrap at the Scanout Engine (R40, R46, R54). -/
def State.scanWrap (s : State) : State :=
  match s.scn.mode with
  | .stopped => s.darkFrame
  | .startPending => ((s.withScn { s.scn with mode := .scanning }).fixFrame).scanningBegun
  | .scanning => s.emitReport.fixFrame
  | .stopPending =>
    let s := s.emitReport
    ((s.withScn { s.scn with mode := .stopped }).darkFrame).scanningStopped

/-! ## The STROBE command -/

/-- STROBE SET's candidate for the staged set (R49). -/
def strobeCandidate (t : TimingSet) (f : StrobeFields) : TimingSet :=
  { t with cL := tick16 f.cL t.cL, cR := tick16 f.cR t.cR, wReq := field16 0 20000 f.wReq t.wReq,
           iPk := field16 0 1500 f.iPk t.iPk }

/-- STROBE SET (R49). -/
def execStrobeSet (tag : Byte) (f : StrobeFields) (s : State) : Host.Outcome State Fault Refusal :=
  execute (.strobeSet tag f) (fun s => s.stage (.strobeSet tag f) tag f.stray
    (clamped16 0 20000 f.wReq || clamped16 0 1500 f.iPk) (strobeCandidate s.ftb.staged f)) s

/-- The strobe settings of one copy of the timing set (section 10.6). -/
def strobeSettings (t : TimingSet) : List Byte := num16 t.cL ++ num16 t.cR ++ num16 t.wReq ++ num16 t.iPk

/-- Data of the STROBE GET reply (R50). -/
def State.strobeData (s : State) : List Byte :=
  strobeSettings s.ftb.live ++ strobeSettings s.ftb.staged ++ [s.scn.mode.code, boolByte s.scn.frame.isSome] ++
    (match s.scn.frame with
     | none => List.replicate 15 0
     | some f =>
       le16 f.fs ++ num16 f.wEff ++ le32 f.tpL ++ le32 f.tpR ++ [govByte f.gov f.clipped] ++ num16 f.wLimit)

/-- STROBE GET (R50). -/
def execStrobeGet (tag : Byte) (s : State) : Host.Outcome State Fault Refusal :=
  execute (.strobeGet tag) (fun s => s.replyTo 0x15 tag .ok s.strobeData) s

/-- The current each backlight is driven at: the live I_pk while its strobe output is on (R12, R49). -/
def State.backlight (s : State) (e : Eye) : Nat := if s.ftb.strobe.at e then s.ftb.live.iPk else 0

end Sys2Proof.Machine
end

