-- ==== Sys2Proof/Machine/Records.lean ====
section
/-! DEFINITION. From the bytes of the downstream sideband to a command: the parser (R150, R164), the lengths of
section 10.5 (R151, R166), classification and acceptance (R151, R153). -/

namespace Sys2Proof.Machine

/-! ## Payload fields -/

/-- Bytes of the fields a presence byte marks, given the fields' widths. -/
def markedLength (m : Byte) (widths : List Nat) : Nat :=
  (widths.zipIdx.map (fun x => if m.getLsbD x.2 then x.1 else 0)).sum

/-- A presence bit above the listed fields is set (R166). -/
def strayBit (m : Byte) (fields : Nat) : Bool := m.toNat / 2 ^ fields ≠ 0

/-- The bytes from the i-th optional field on, when it is marked; the optional fields begin at `base`. -/
def markedAt (m : Byte) (widths : List Nat) (i base : Nat) (payload : List Byte) : Option (List Byte) :=
  if m.getLsbD i then some (payload.drop (base + markedLength m (widths.take i))) else none

/-- The i-th optional field as a 16-bit value. -/
def marked16 (m : Byte) (widths : List Nat) (i base : Nat) (payload : List Byte) : Option W16 :=
  (markedAt m widths i base payload).map read16

/-- The i-th optional field as a byte. -/
def marked8 (m : Byte) (widths : List Nat) (i base : Nat) (payload : List Byte) : Option Byte :=
  (markedAt m widths i base payload).map (fun bs => bs.getD 0 0)

/-- The items of MONITOR SET, six bytes each. -/
def readItems : Nat → List Byte → List LimitItem
  | 0, _ => []
  | n + 1, bs =>
    { input := bs.getD 0 0, presence := bs.getD 1 0, low := read16 (bs.drop 2), high := read16 (bs.drop 4) } ::
      readItems n (bs.drop 6)

/-- Widths of the optional fields of a command, by its code (section 10.5). -/
def optionalWidths (code : Byte) : List Nat :=
  match code.toNat with
  | 0x10 => [2, 2, 2, 2]
  | 0x12 => [1, 2, 2]
  | 0x14 => [2, 2, 2, 2]
  | 0x18 => [1, 2, 2, 2, 2, 2]
  | 0x20 => [1, 2, 2, 2, 2]
  | 0x23 => [1, 1, 1]
  | 0x30 => [1]
  | 0x33 => [2, 2, 2]
  | 0x35 => [2]
  | 0x40 => [2, 2, 2, 2]
  | 0x50 => [1, 2]
  | 0x56 => [2, 2, 2, 2, 2]
  | _ => []

/-- The payload length a command's contents call for (R166); none for an unknown code. -/
def calledLength (code : Byte) (payload : List Byte) : Option Nat :=
  let m := payload.getD 0 0
  let opt := markedLength m (optionalWidths code)
  match code.toNat with
  | 0x01 | 0x02 | 0x03 | 0x04 | 0x11 | 0x15 | 0x19 | 0x1D | 0x21 | 0x24 | 0x25 | 0x26 => some 0
  | 0x31 | 0x32 | 0x34 | 0x38 | 0x41 | 0x42 | 0x43 | 0x44 | 0x45 | 0x51 | 0x52 | 0x55 | 0x57 => some 0
  | 0x10 | 0x12 | 0x14 | 0x18 | 0x20 | 0x23 | 0x33 | 0x40 | 0x56 => some (1 + opt)
  | 0x1A => some 6
  | 0x1C | 0x22 => some 1
  | 0x30 => some (5 + opt)
  | 0x35 => some (3 + opt)
  | 0x36 => some (if m = 1 ∨ m = 2 then 13 else 1)
  | 0x37 => some 6
  | 0x50 => some (2 + opt + 6 * (payload.getD (1 + opt) 0).toNat)
  | 0x53 => some 3
  | 0x54 => some 2
  | _ => none

/-- The command a record of a known code and the right length spells (section 10.5). -/
def commandOf (code tag : Byte) (pl : List Byte) : Option Instr :=
  let m := pl.getD 0 0
  let ws := optionalWidths code
  match code.toNat with
  | 0x01 => some (.identify tag)
  | 0x02 => some (.statusRead tag)
  | 0x03 => some (.statusReadClear tag)
  | 0x04 => some (.reset tag)
  | 0x10 => some (.timingSet tag
      { stray := strayBit m 4, p := marked16 m ws 0 1 pl, s := marked16 m ws 1 1 pl, l := marked16 m ws 2 1 pl,
        monTick := marked16 m ws 3 1 pl })
  | 0x11 => some (.timingGet tag)
  | 0x12 => some (.sync tag
      { stray := strayBit m 3, polarity := marked8 m ws 0 1 pl, tick := marked16 m ws 1 1 pl,
        width := marked16 m ws 2 1 pl })
  | 0x14 => some (.strobeSet tag
      { stray := strayBit m 4, cL := marked16 m ws 0 1 pl, cR := marked16 m ws 1 1 pl, wReq := marked16 m ws 2 1 pl,
        iPk := marked16 m ws 3 1 pl })
  | 0x15 => some (.strobeGet tag)
  | 0x18 => some (.shiftSet tag
      { stray := strayBit m 6, enable := marked8 m ws 0 1 pl, ppdX := marked16 m ws 1 1 pl,
        ppdY := marked16 m ws 2 1 pl, maxX := marked16 m ws 3 1 pl, maxY := marked16 m ws 4 1 pl,
        hMax := marked16 m ws 5 1 pl })
  | 0x19 => some (.shiftGet tag)
  | 0x1A => some (.shiftProbe tag (read16 pl) (read32 (pl.drop 2)))
  | 0x1C => some (.holdSet tag m)
  | 0x1D => some (.holdTable tag)
  | 0x20 => some (.laneSet tag
      { stray := strayBit m 5, policy := marked8 m ws 0 1 pl, dReq := marked16 m ws 1 1 pl,
        dMin := marked16 m ws 2 1 pl, tWait := marked16 m ws 3 1 pl, w := marked16 m ws 4 1 pl })
  | 0x21 => some (.laneGet tag)
  | 0x22 =>
    match m.toNat with
    | 1 => some (.modeStandby tag)
    | 2 => some (.modeDoze tag)
    | 3 => some (.modeWake tag)
    | _ => some (.modeRun tag m)
  | 0x23 => some (.modeAutodoze tag
      { stray := strayBit m 3, autoDoze := marked8 m ws 0 1 pl, delay := marked8 m ws 1 1 pl,
        polarity := marked8 m ws 2 1 pl })
  | 0x24 => some (.modeGet tag)
  | 0x25 => some (.wakesourceRead tag)
  | 0x26 => some (.wakesourceClear tag)
  | 0x30 => some (.motionStart tag
      { stray := strayBit m 1, rate := read16 (pl.drop 1), batch := pl.getD 3 0, identity := pl.getD 4 0,
        edge := marked8 m ws 0 5 pl })
  | 0x31 => some (.motionStop tag)
  | 0x32 => some (.motionGet tag)
  | 0x33 => some (.biasSet tag
      { stray := strayBit m 3, x := marked16 m ws 0 1 pl, y := marked16 m ws 1 1 pl, z := marked16 m ws 2 1 pl })
  | 0x34 => some (.biasGet tag)
  | 0x35 => some (.calibrate tag
      { stray := strayBit m 1, n := read16 (pl.drop 1), stillness := marked16 m ws 0 3 pl })
  | 0x36 =>
    if m = 1 ∨ m = 2 then
      some (.recentre tag
        { mode := m, yaw := read32 (pl.drop 1), pitch := read32 (pl.drop 5), roll := read32 (pl.drop 9) })
    else some (.recentre tag { mode := m, yaw := 0, pitch := 0, roll := 0 })
  | 0x37 => some (.wakefilterSet tag
      { index := m, enable := pl.getD 1 0, axes := pl.getD 2 0, threshold := read16 (pl.drop 3),
        runCount := pl.getD 5 0 })
  | 0x38 => some (.wakefilterGet tag)
  | 0x40 => some (.audioSet tag
      { stray := strayBit m 4, gainL := marked16 m ws 0 1 pl, gainR := marked16 m ws 1 1 pl,
        prefill := marked16 m ws 2 1 pl, blockSize := marked16 m ws 3 1 pl })
  | 0x41 => some (.audioPlayStart tag)
  | 0x42 => some (.audioPlayStop tag)
  | 0x43 => some (.micStart tag)
  | 0x44 => some (.micStop tag)
  | 0x45 => some (.audioGet tag)
  | 0x50 =>
    let opt := markedLength m ws
    some (.monitorSet tag
      { stray := strayBit m 2, mask := marked8 m ws 0 1 pl, divider := marked16 m ws 1 1 pl,
        items := readItems (pl.getD (1 + opt) 0).toNat (pl.drop (2 + opt)) })
  | 0x51 => some (.monitorStop tag)
  | 0x52 => some (.monitorGet tag)
  | 0x53 =>
    if m = 1 then some (.roundContinuous tag (pl.getD 1 0) (pl.getD 2 0))
    else some (.roundOneShot tag m (pl.getD 1 0) (pl.getD 2 0))
  | 0x54 => some (.allowanceSet tag (read16 pl))
  | 0x55 => some (.allowanceGet tag)
  | 0x56 => some (.limitsSet tag
      { stray := strayBit m 5, rs := marked16 m ws 0 1 pl, vuv := marked16 m ws 1 1 pl,
        wFloor := marked16 m ws 2 1 pl, ts := marked16 m ws 3 1 pl, tLim := marked16 m ws 4 1 pl })
  | 0x57 => some (.limitsGet tag)
  | _ => none

/-! ## Classification and acceptance -/

/-- What the classification of a received command gives (R151). -/
inductive Received where
  | unknown
  | badLength
  | command (c : Instr)
  deriving DecidableEq, Repr

/-- Classification by code and payload length (R151). -/
def classify (code tag : Byte) (payload : List Byte) : Received :=
  match calledLength code payload, commandOf code tag payload with
  | some n, some c => if payload.length = n then .command c else .badLength
  | _, _ => .unknown

/-- A command is offered for acceptance (R153). -/
def State.offerCommand (s : State) (code tag : Byte) (c : Instr) : State :=
  if s.smp.freeEntries = 0 then s.count .unheard 1
  else if s.smp.inbound.length < 8 then
    s.withSmp { s.smp with inbound := s.smp.inbound ++ [c], reserved := s.smp.reserved + 1 }
  else s.answerAtReception code tag .queueFull

/-- A received command: classified, then answered or offered (R151, R153). -/
def State.receiveCommand (s : State) (code tag : Byte) (payload : List Byte) : State :=
  match classify code tag payload with
  | .unknown => s.answerAtReception code tag .unknown
  | .badLength => s.answerAtReception code tag .badLength
  | .command c => s.offerCommand code tag c

/-- A whole record: `body` runs from its kind to its payload's end, `crc` is the two bytes after it (R150). -/
def State.receiveRecord (s : State) (body : List Byte) (crc : W16) : State :=
  if crc16 body ≠ crc then s.count .badRecords 1
  else if body.getD 0 0 ≠ 1 then s.count .badRecords 1
  else s.receiveCommand (body.getD 1 0) (body.getD 2 0) (body.drop 5)

/-! ## The inbound parser (R150, R164) -/

/-- The bytes from the first sync on; a last byte that may be a first sync byte is kept (R164). -/
def hunt : List Byte → List Byte
  | [] => []
  | [b] => if b = 0xC3 then [b] else []
  | a :: b :: rest => if a = 0xC3 && b = 0x3C then a :: b :: rest else hunt (b :: rest)

/-- What the parser finds at the front of the bytes it holds. -/
inductive Parsed where
  /-- Nothing whole yet: the bytes to keep. -/
  | hold (bytes : List Byte)
  /-- A payload length above 2,048: hunting goes on in the bytes after the sync. -/
  | tooLong (rest : List Byte)
  /-- A whole record: its body, its CRC and the bytes after it. -/
  | whole (body : List Byte) (crc : W16) (rest : List Byte)
  deriving DecidableEq, Repr

/-- One look of the parser at its bytes (R150). -/
def parseOne (bytes : List Byte) : Parsed :=
  let b := hunt bytes
  if b.length < 7 then .hold b
  else
    let n := (read16 (b.drop 5)).toNat
    if 2048 < n then .tooLong (b.drop 2)
    else if b.length < n + 9 then .hold b
    else .whole ((b.drop 2).take (n + 5)) (read16 (b.drop (n + 7))) (b.drop (n + 9))

/-- The parser is in RECEIVING: a sync has been found and the record has not ended (R150). -/
def Smp.receiving (x : Smp) : Bool := 2 ≤ x.rx.length

/-- The parser goes through its bytes; each look but the last takes at least two of them, so their number bounds the
looks. -/
def State.parse : Nat → State → List Byte → State
  | 0, s, bytes => s.withSmp { s.smp with rx := hunt bytes }
  | n + 1, s, bytes =>
    match parseOne bytes with
    | .hold b => s.withSmp { s.smp with rx := b }
    | .tooLong rest => State.parse n (s.count .badRecords 1) rest
    | .whole body crc rest => State.parse n (s.receiveRecord body crc) rest

/-- Downstream bytes arrive (R150). -/
def State.feed (s : State) (bytes : List Byte) : State :=
  let all := s.smp.rx ++ bytes
  State.parse all.length (s.withSmp { s.smp with rxIdle := 0 }) all

end Sys2Proof.Machine
end

