-- ==== Sys2Proof/Machine/Sideband.lean ====
section
/-! DEFINITION. The Sideband Message Port (chapter 9): records received, the interpreter, the end of a record sent, and
the IDENTIFY and STATUS commands. -/

namespace Sys2Proof.Machine

/-! ## Records (R150 to R153) -/

/-- RECORD_RECEIVED (R150): the downstream bytes that end a record are taken in order. -/
def execRecordReceived (bytes : List Byte) (s : State) : Host.Outcome State Fault Refusal :=
  occur (fun _ => true) (fun s => s.feed bytes) s

/-- RECORD_LENGTH_REJECT (R150, R164): the downstream bytes that end in a payload length above 2,048 are taken in
order. -/
def execRecordLengthReject (bytes : List Byte) (s : State) : Host.Outcome State Fault Refusal :=
  occur (fun _ => true) (fun s => s.feed bytes) s

/-- An incomplete record is discarded after 1,000 µs with no byte, and counted (R150). -/
def State.byteTimeout (s : State) : State :=
  (s.withSmp { s.smp with rx := [], rxIdle := 0 }).count .badRecords 1

/-- BYTE_TIMEOUT (R150). -/
def execByteTimeout (s : State) : Host.Outcome State Fault Refusal :=
  occur (fun s => s.byteTimeoutIsDue) (fun s => s.byteTimeout) s

/-! ## The interpreter (R154) -/

/-- The free interpreter removes the oldest inbound command and begins it; it executes 10 µs later. -/
def State.beginCommand (s : State) : State :=
  match s.smp.inbound with
  | [] => s
  | c :: rest => s.withSmp { s.smp with inbound := rest, interp := some { command := c, left := 10 } }

/-- COMMAND_BEGIN (R154). -/
def execCommandBegin (s : State) : Host.Outcome State Fault Refusal :=
  occur (fun s => s.commandBeginIsDue) (fun s => s.beginCommand) s

/-! ## The end of a record (R158, R160) -/

/-- The record sent is a STATUS READ_CLEAR reply. -/
def Upstream.clears : Upstream → Bool
  | .reply r => r.clears
  | _ => false

/-- The pending subtraction is made (R160). -/
def Smp.subtract (x : Smp) : Smp :=
  match x.subtraction with
  | none => x
  | some d => { x with counters := x.counters.minus d, subtraction := none }

/-- The record being sent ends: its subtraction is made if it has one, and the arbiter chooses afresh. -/
def State.recordSent (s : State) : State :=
  let x := if s.smp.sending.any Upstream.clears then s.smp.subtract else s.smp
  (s.withSmp { x with sending := none }).arbitrate

/-- RECORD_SENT (R158). -/
def execRecordSent (s : State) : Host.Outcome State Fault Refusal :=
  occur (fun s => s.smp.sending.isSome) (fun s => s.recordSent) s

/-! ## IDENTIFY (R161) -/

/-- Data of the IDENTIFY reply (R161). -/
def State.identity (s : State) : List Byte :=
  le16 Config.partIdentity ++ [Config.siliconRevision, s.mdc.resetCause.code] ++ le32 s.ftb.tbc ++ [s.mdc.device.code]

/-- IDENTIFY (R161). -/
def execIdentify (tag : Byte) (s : State) : Host.Outcome State Fault Refusal :=
  execute (.identify tag) (fun s => s.replyTo 0x01 tag .ok s.identity) s

/-! ## STATUS (R159, R160) -/

/-- Data of the STATUS replies (R159). -/
def State.statusData (s : State) : List Byte :=
  Counter.all.flatMap (fun k => num16 (s.smp.counters.get k)) ++ le32 s.ftb.tbc ++ num8 s.smp.inbound.length ++
    num8 s.smp.reserved ++ num8 s.smp.held.length ++ num8 s.smp.notices.length ++
    [boolByte s.smp.subtraction.isSome]

/-- STATUS READ (R159). -/
def execStatusRead (tag : Byte) (s : State) : Host.Outcome State Fault Refusal :=
  execute (.statusRead tag) (fun s => s.replyTo 0x02 tag .ok s.statusData) s

/-- STATUS READ_CLEAR's effect (R160): BUSY while a subtraction is pending; otherwise the counters reported are kept as
the pending subtraction. -/
def State.readClear (s : State) (tag : Byte) : State :=
  if s.smp.subtraction.isSome then s.replyTo 0x03 tag .busy []
  else (s.withSmp { s.smp with subtraction := some s.smp.counters }).makeReply
    { code := 0x03, tag := tag, status := .ok, data := s.statusData, clears := true }

/-- STATUS READ_CLEAR (R160). -/
def execStatusReadClear (tag : Byte) (s : State) : Host.Outcome State Fault Refusal :=
  execute (.statusReadClear tag) (fun s => s.readClear tag) s

end Sys2Proof.Machine
end

