-- ==== Sys2Proof/Machine/Timebase.lean ====
section
/-! DEFINITION. The Frame Timebase (chapter 1): the frame wrap, marks, strobe and sync outputs, data-ready capture,
and the TIMING and SYNC commands. -/

namespace Sys2Proof.Machine

/-! ## The frame wrap (R2, R4, R5, R14, R15) -/

/-- What the Frame Timebase does at a wrap: FC, FS, the frame start TBC and the commit of the staged set (R2); the
frame's marks are still to be raised (R11); the cut ends where the Governor is not in POWER_FAIL (R14); a change of
polarity takes the sync output to the level the new frame begins with (R15). DESIGN CHOICE, log entry 31: a sync pulse
that the wrap clips stays active with no end and no start where the new frame's pulse of the same polarity starts at
tick 0, since R15 gives no inactive moment between them. -/
def Ftb.wrap (f : Ftb) (powerFail : Bool) : Ftb :=
  let g : Ftb := { f with
    fc := 0, wrapDue := false, fs := f.fs + 1, frameStart := f.tbc, live := f.staged, marked2 := false,
    marked3 := false, marked4 := false, cut := f.cut && powerFail }
  if f.live.syncPolarity = f.staged.syncPolarity then g else { g with syncActive := g.syncOn }

/-- FRAME_WRAP: an end request that falls in this microsecond belongs to the frame that ends (R41); the Frame
Timebase wraps; the Scanout Engine acts on the announcement (R4). -/
def State.wrapFrame (s : State) : State :=
  let s := if s.endRequestIsDue then s.endWindows else s
  (s.withFtb (s.ftb.wrap (s.gov.state = .powerFail))).scanWrap

/-- FRAME_WRAP (R2). -/
def execFrameWrap (s : State) : Host.Outcome State Fault Refusal :=
  occur (fun s => s.wrapIsDue) (fun s => s.wrapFrame) s

/-! ## Marks (R11) -/

/-- The channel's mark of this frame is raised. -/
def Ftb.raise (f : Ftb) : MarkChannel → Ftb
  | .ec2 => { f with marked2 := true }
  | .ec3 => { f with marked3 := true }
  | .ec4 => { f with marked4 := true }

/-- A mark is raised and delivered to its receiver (R11). -/
def State.raiseMark (s : State) (ch : MarkChannel) : State :=
  let s := s.withFtb (s.ftb.raise ch)
  match ch with
  | .ec2 => s.scanMark
  | .ec3 => s.monitorMark
  | .ec4 => s.wakeMark

/-- MARK (R11). -/
def execMark (ch : MarkChannel) (s : State) : Host.Outcome State Fault Refusal :=
  occur (fun s => s.markIsDue ch) (fun s => s.raiseMark ch) s

/-! ## Strobe and sync outputs (R12 to R15) -/

/-- An eye's strobe output. -/
def State.setStrobe (s : State) (e : Eye) (on : Bool) : State :=
  s.withFtb { s.ftb with strobe := s.ftb.strobe.put e on }

/-- STROBE_ON (R12). -/
def execStrobeOn (e : Eye) (s : State) : Host.Outcome State Fault Refusal :=
  occur (fun s => s.strobeOnIsDue e) (fun s => s.setStrobe e true) s

/-- STROBE_OFF (R12). -/
def execStrobeOff (e : Eye) (s : State) : Host.Outcome State Fault Refusal :=
  occur (fun s => s.strobeOffIsDue e) (fun s => s.setStrobe e false) s

/-- SYNC_PULSE_START (R15). -/
def execSyncPulseStart (s : State) : Host.Outcome State Fault Refusal :=
  occur (fun s => s.syncStartIsDue) (fun s => s.withFtb { s.ftb with syncActive := true }) s

/-- SYNC_PULSE_END (R15). -/
def execSyncPulseEnd (s : State) : Host.Outcome State Fault Refusal :=
  occur (fun s => s.syncEndIsDue) (fun s => s.withFtb { s.ftb with syncActive := false }) s

/-- The level of the sync pin: high when active for ACTIVE_HIGH, low when active for ACTIVE_LOW (R15). -/
def Ftb.syncPin (f : Ftb) : Bool :=
  match f.live.syncPolarity with
  | .activeHigh => f.syncActive
  | .activeLow => !f.syncActive

/-! ## Data-ready capture (R16, R17) -/

/-- A data-ready edge on armed EC5 of the selected direction (R17). -/
def State.captureEdge (s : State) : State :=
  if s.ftb.slot.isSome then s.withFtb { s.ftb with overrun := true }
  else
    let c : Capture := { tbc := s.ftb.tbc, overrun := s.ftb.overrun }
    (s.withFtb { s.ftb with slot := some s.ftb.tbc, overrun := false }).takeCapture c

/-- DATA_READY_EDGE (R17): an edge of the other direction, or while EC5 is disarmed, changes nothing. -/
def execDataReadyEdge (rising : Bool) (s : State) : Host.Outcome State Fault Refusal :=
  occur (fun s => s.ftb.armed && s.ftb.edgeRising == rising) (fun s => s.captureEdge) s

/-! ## The TIMING and SYNC commands -/

/-- TIMING SET's candidate for the staged set (R8). -/
def timingCandidate (t : TimingSet) (f : TimingFields) : TimingSet :=
  { t with p := field16 4000 20000 f.p t.p, s := tick16 f.s t.s, l := field16 100 1250 f.l t.l,
           monTick := tick16 f.monTick t.monTick }

/-- TIMING SET (R8). -/
def execTimingSet (tag : Byte) (f : TimingFields) (s : State) : Host.Outcome State Fault Refusal :=
  execute (.timingSet tag f) (fun s => s.stage (.timingSet tag f) tag f.stray
    (clamped16 4000 20000 f.p || clamped16 100 1250 f.l) (timingCandidate s.ftb.staged f)) s

/-- The four TIMING fields of one copy of the timing set (section 10.6). -/
def timingSettings (t : TimingSet) : List Byte := num16 t.p ++ num16 t.s ++ num16 t.l ++ num16 t.monTick

/-- Data of the TIMING GET reply (R9). -/
def State.timingData (s : State) : List Byte :=
  le32 s.ftb.tbc ++ num16 s.ftb.fc ++ le16 s.ftb.fs ++ le32 s.ftb.frameStart ++ timingSettings s.ftb.live ++
    timingSettings s.ftb.staged

/-- TIMING GET (R9). -/
def execTimingGet (tag : Byte) (s : State) : Host.Outcome State Fault Refusal :=
  execute (.timingGet tag) (fun s => s.replyTo 0x11 tag .ok s.timingData) s

/-- A polarity code, 0 ACTIVE_HIGH and 1 ACTIVE_LOW (section 10.5). -/
def polarityOf (v : Option Byte) (old : Polarity) : Polarity :=
  match v with
  | none => old
  | some x => if x = 0 then .activeHigh else .activeLow

/-- SYNC's candidate for the staged set (R10). -/
def syncCandidate (t : TimingSet) (f : SyncFields) : TimingSet :=
  { t with syncPolarity := polarityOf f.polarity t.syncPolarity, syncTick := tick16 f.tick t.syncTick,
           syncWidth := field16 0 20000 f.width t.syncWidth }

/-- SYNC (R10). -/
def execSync (tag : Byte) (f : SyncFields) (s : State) : Host.Outcome State Fault Refusal :=
  execute (.sync tag f) (fun s => s.stage (.sync tag f) tag (f.stray || badSwitch f.polarity)
    (clamped16 0 20000 f.width) (syncCandidate s.ftb.staged f)) s

end Sys2Proof.Machine
end

