-- ==== Sys2Proof/Machine/Dispatch.lean ====
section
/-! DEFINITION. The effect of each command on everything but the queue of waiting commands: one arm for each row of
spec/opcode_table.json, in its order. -/

namespace Sys2Proof.Machine

def exec (i : Instr) (s : State) : Host.Outcome State Fault Refusal :=
  match i with
  | .resetRelease => Sys2Proof.Machine.execResetRelease s
  | .powerOnReset => Sys2Proof.Machine.execPowerOnReset s
  | .supplyDipReset => Sys2Proof.Machine.execSupplyDipReset s
  | .sidebandLoss => Sys2Proof.Machine.execSidebandLoss s
  | .frameWrap => Sys2Proof.Machine.execFrameWrap s
  | .mark ch => Sys2Proof.Machine.execMark ch s
  | .strobeOn e => Sys2Proof.Machine.execStrobeOn e s
  | .strobeOff e => Sys2Proof.Machine.execStrobeOff e s
  | .syncPulseStart => Sys2Proof.Machine.execSyncPulseStart s
  | .syncPulseEnd => Sys2Proof.Machine.execSyncPulseEnd s
  | .dataReadyEdge rising => Sys2Proof.Machine.execDataReadyEdge rising s
  | .take e k => Sys2Proof.Machine.execTake e k s
  | .endRequest => Sys2Proof.Machine.execEndRequest s
  | .signalDetected => Sys2Proof.Machine.execSignalDetected s
  | .trainingLock => Sys2Proof.Machine.execTrainingLock s
  | .trainingTimeout => Sys2Proof.Machine.execTrainingTimeout s
  | .signalLoss => Sys2Proof.Machine.execSignalLoss s
  | .activityInIdle => Sys2Proof.Machine.execActivityInIdle s
  | .burstStart header => Sys2Proof.Machine.execBurstStart header s
  | .burstEnd payload crc => Sys2Proof.Machine.execBurstEnd payload crc s
  | .wakingEnd => Sys2Proof.Machine.execWakingEnd s
  | .idleEntry => Sys2Proof.Machine.execIdleEntry s
  | .identityReadComplete identity => Sys2Proof.Machine.execIdentityReadComplete identity s
  | .configWriteComplete => Sys2Proof.Machine.execConfigWriteComplete s
  | .firstSampleTimeout => Sys2Proof.Machine.execFirstSampleTimeout s
  | .sampleReadComplete raw => Sys2Proof.Machine.execSampleReadComplete raw s
  | .rateWriteComplete => Sys2Proof.Machine.execRateWriteComplete s
  | .powerDownWriteComplete => Sys2Proof.Machine.execPowerDownWriteComplete s
  | .stallTimeout => Sys2Proof.Machine.execStallTimeout s
  | .outputPeriod => Sys2Proof.Machine.execOutputPeriod s
  | .micSample sample => Sys2Proof.Machine.execMicSample sample s
  | .conversionComplete code => Sys2Proof.Machine.execConversionComplete code s
  | .panelPowerUpDone => Sys2Proof.Machine.execPanelPowerUpDone s
  | .panelPowerDownDone => Sys2Proof.Machine.execPanelPowerDownDone s
  | .offHeadTimeout => Sys2Proof.Machine.execOffHeadTimeout s
  | .proximityEdge high => Sys2Proof.Machine.execProximityEdge high s
  | .recordReceived bytes => Sys2Proof.Machine.execRecordReceived bytes s
  | .recordLengthReject bytes => Sys2Proof.Machine.execRecordLengthReject bytes s
  | .byteTimeout => Sys2Proof.Machine.execByteTimeout s
  | .commandBegin => Sys2Proof.Machine.execCommandBegin s
  | .recordSent => Sys2Proof.Machine.execRecordSent s
  | .identify tag => Sys2Proof.Machine.execIdentify tag s
  | .statusRead tag => Sys2Proof.Machine.execStatusRead tag s
  | .statusReadClear tag => Sys2Proof.Machine.execStatusReadClear tag s
  | .reset tag => Sys2Proof.Machine.execReset tag s
  | .timingSet tag f => Sys2Proof.Machine.execTimingSet tag f s
  | .timingGet tag => Sys2Proof.Machine.execTimingGet tag s
  | .sync tag f => Sys2Proof.Machine.execSync tag f s
  | .strobeSet tag f => Sys2Proof.Machine.execStrobeSet tag f s
  | .strobeGet tag => Sys2Proof.Machine.execStrobeGet tag s
  | .shiftSet tag f => Sys2Proof.Machine.execShiftSet tag f s
  | .shiftGet tag => Sys2Proof.Machine.execShiftGet tag s
  | .shiftProbe tag ref target => Sys2Proof.Machine.execShiftProbe tag ref target s
  | .holdSet tag hold => Sys2Proof.Machine.execHoldSet tag hold s
  | .holdTable tag => Sys2Proof.Machine.execHoldTable tag s
  | .laneSet tag f => Sys2Proof.Machine.execLaneSet tag f s
  | .laneGet tag => Sys2Proof.Machine.execLaneGet tag s
  | .modeRun tag target => Sys2Proof.Machine.execModeRun tag target s
  | .modeStandby tag => Sys2Proof.Machine.execModeStandby tag s
  | .modeDoze tag => Sys2Proof.Machine.execModeDoze tag s
  | .modeWake tag => Sys2Proof.Machine.execModeWake tag s
  | .modeAutodoze tag f => Sys2Proof.Machine.execModeAutodoze tag f s
  | .modeGet tag => Sys2Proof.Machine.execModeGet tag s
  | .wakesourceRead tag => Sys2Proof.Machine.execWakesourceRead tag s
  | .wakesourceClear tag => Sys2Proof.Machine.execWakesourceClear tag s
  | .motionStart tag f => Sys2Proof.Machine.execMotionStart tag f s
  | .motionStop tag => Sys2Proof.Machine.execMotionStop tag s
  | .motionGet tag => Sys2Proof.Machine.execMotionGet tag s
  | .biasSet tag f => Sys2Proof.Machine.execBiasSet tag f s
  | .biasGet tag => Sys2Proof.Machine.execBiasGet tag s
  | .calibrate tag f => Sys2Proof.Machine.execCalibrate tag f s
  | .recentre tag f => Sys2Proof.Machine.execRecentre tag f s
  | .wakefilterSet tag f => Sys2Proof.Machine.execWakefilterSet tag f s
  | .wakefilterGet tag => Sys2Proof.Machine.execWakefilterGet tag s
  | .audioSet tag f => Sys2Proof.Machine.execAudioSet tag f s
  | .audioPlayStart tag => Sys2Proof.Machine.execAudioPlayStart tag s
  | .audioPlayStop tag => Sys2Proof.Machine.execAudioPlayStop tag s
  | .micStart tag => Sys2Proof.Machine.execMicStart tag s
  | .micStop tag => Sys2Proof.Machine.execMicStop tag s
  | .audioGet tag => Sys2Proof.Machine.execAudioGet tag s
  | .monitorSet tag f => Sys2Proof.Machine.execMonitorSet tag f s
  | .monitorStop tag => Sys2Proof.Machine.execMonitorStop tag s
  | .monitorGet tag => Sys2Proof.Machine.execMonitorGet tag s
  | .roundOneShot tag mode first last => Sys2Proof.Machine.execRoundOneShot tag mode first last s
  | .roundContinuous tag first last => Sys2Proof.Machine.execRoundContinuous tag first last s
  | .allowanceSet tag allowance => Sys2Proof.Machine.execAllowanceSet tag allowance s
  | .allowanceGet tag => Sys2Proof.Machine.execAllowanceGet tag s
  | .limitsSet tag f => Sys2Proof.Machine.execLimitsSet tag f s
  | .limitsGet tag => Sys2Proof.Machine.execLimitsGet tag s
  | .sidebandSignalPresent => Sys2Proof.Machine.execSidebandSignalPresent s

end Sys2Proof.Machine
end

