-- ==== Sys2Proof/Machine/Schedule.lean ====
section
/-! DEFINITION. The events the part takes by itself, in the order in which the model takes those that fall in one
microsecond, and the events that wait for a value from outside (log entries 8, 9 and 10). -/

namespace Sys2Proof.Machine

/-- An event where it is due. -/
def whenDue (due : Bool) (c : Instr) : Option Instr := if due then some c else none

/-- The next take of an eye, where it is due (R41). -/
def State.nextTake (s : State) (e : Eye) : Option Instr :=
  match s.scn.sched.at e with
  | none => none
  | some k => if h : k < 16 then whenDue (s.takeIsDue e k) (.take e ⟨k, h⟩) else none

/-- The events of the frame, with an end request before the wrap of its microsecond and L before R. -/
def State.frameEvents (s : State) : List (Option Instr) :=
  [whenDue s.endRequestIsDue .endRequest, whenDue s.wrapIsDue .frameWrap, whenDue s.syncEndIsDue .syncPulseEnd,
    whenDue s.syncStartIsDue .syncPulseStart, whenDue (s.strobeOffIsDue .left) (.strobeOff .left),
    whenDue (s.strobeOffIsDue .right) (.strobeOff .right), whenDue (s.strobeOnIsDue .left) (.strobeOn .left),
    whenDue (s.strobeOnIsDue .right) (.strobeOn .right), whenDue (s.markIsDue .ec2) (.mark .ec2),
    whenDue (s.markIsDue .ec3) (.mark .ec3), whenDue (s.markIsDue .ec4) (.mark .ec4), s.nextTake .left,
    s.nextTake .right]

/-- The events of the timers. -/
def State.timerEvents (s : State) : List (Option Instr) :=
  [whenDue s.trainingTimeoutIsDue .trainingTimeout, whenDue s.wakingEndIsDue .wakingEnd,
    whenDue (s.mot.busDone .configWrite) .configWriteComplete, whenDue s.rateWriteIsDue .rateWriteComplete,
    whenDue (s.mot.busDone .powerDown) .powerDownWriteComplete,
    whenDue s.firstSampleTimeoutIsDue .firstSampleTimeout, whenDue s.stallTimeoutIsDue .stallTimeout,
    whenDue s.aud.periodDue .outputPeriod, whenDue s.panelUpIsDue .panelPowerUpDone,
    whenDue s.panelDownIsDue .panelPowerDownDone, whenDue s.offHeadIsDue .offHeadTimeout,
    whenDue s.idleEntryIsDue .idleEntry, whenDue s.byteTimeoutIsDue .byteTimeout]

/-- The command whose 10 µs have run (R154). -/
def State.dueCommand (s : State) : Option Instr := s.smp.interp.bind (fun b => whenDue (b.left = 0) b.command)

/-- The event the part takes next by itself; a part held in reset has output periods only (R114, R132). -/
def State.nextEvent (s : State) : Option Instr :=
  if s.mdc.inReset then whenDue s.aud.periodDue .outputPeriod
  else (s.frameEvents ++ s.timerEvents ++ [s.dueCommand, whenDue s.commandBeginIsDue .commandBegin]).findSome? id

/-- An event is due that carries a value from outside the part: a converter code, a byte or a sample from the sensor,
a microphone sample. Time waits for its sender. -/
def State.waitsForValue (s : State) : Bool :=
  s.conversionIsDue || s.mot.busDone .identityRead || s.mot.busDone .sampleRead || (s.aud.micDue && s.aud.micRunning)

end Sys2Proof.Machine
end

