-- ==== Sys2Proof/Machine/Step.lean ====
section
/-! DEFINITION. One step: the command at the front of the queue, and on an empty queue the part's own next event or
one microsecond. -/

namespace Sys2Proof.Machine

/-- The part with no command waiting: it takes its next due event; where there is none it waits for a value from
outside, or one microsecond passes (log entries 8 and 9). -/
def State.runOn (s : State) : Host.Outcome State Fault Refusal :=
  match s.nextEvent with
  | some c => exec c s
  | none => .next (if s.waitsForValue then s else s.tick)

/-- The command at the front of the queue runs on the state with the queue's rest. -/
def step (s : State) : Host.Outcome State Fault Refusal :=
  match s.pending with
  | c :: rest => exec c (s.withPending rest)
  | [] => s.runOn

/-- The command a table word spells, put at the front of the queue; no row gives bits, so no word spells one. -/
def State.withFetchWord (s : State) (nbits w : Nat) : State :=
  match decodeTableWord nbits w with
  | some c => s.withPending (c :: s.pending)
  | none => s

end Sys2Proof.Machine
end

