-- ==== Sys2Proof/Machine/Spell.lean ====
section
/-! DEFINITION. The record a host sends for a command: the payload of section 10.5, written from its table. It is the
other direction of Machine/Records.lean, for statements and tests; no meaning calls it. -/

namespace Sys2Proof.Machine

/-- A presence byte: one bit for each optional field, and a bit above them where the command carries a stray one
(R166). -/
def presence (fields : List Bool) (stray : Bool) : Byte := packBits (fields ++ [stray])

/-- An optional 16-bit field, sent when it is present. -/
def sent16 : Option W16 → List Byte
  | none => []
  | some v => le16 v

/-- An optional byte, sent when it is present. -/
def sent8 : Option Byte → List Byte
  | none => []
  | some v => [v]

/-- One item of MONITOR SET. -/
def itemBytes (x : LimitItem) : List Byte := [x.input, x.presence] ++ le16 x.low ++ le16 x.high

/-- The payload of a host command (section 10.5); empty for the codes whose payload is empty. -/
def payloadOf : Instr → List Byte
  | .timingSet _ f =>
    presence [f.p.isSome, f.s.isSome, f.l.isSome, f.monTick.isSome] f.stray ::
      (sent16 f.p ++ sent16 f.s ++ sent16 f.l ++ sent16 f.monTick)
  | .sync _ f =>
    presence [f.polarity.isSome, f.tick.isSome, f.width.isSome] f.stray ::
      (sent8 f.polarity ++ sent16 f.tick ++ sent16 f.width)
  | .strobeSet _ f =>
    presence [f.cL.isSome, f.cR.isSome, f.wReq.isSome, f.iPk.isSome] f.stray ::
      (sent16 f.cL ++ sent16 f.cR ++ sent16 f.wReq ++ sent16 f.iPk)
  | .shiftSet _ f =>
    presence [f.enable.isSome, f.ppdX.isSome, f.ppdY.isSome, f.maxX.isSome, f.maxY.isSome, f.hMax.isSome] f.stray ::
      (sent8 f.enable ++ sent16 f.ppdX ++ sent16 f.ppdY ++ sent16 f.maxX ++ sent16 f.maxY ++ sent16 f.hMax)
  | .shiftProbe _ ref target => le16 ref ++ le32 target
  | .holdSet _ hold => [hold]
  | .laneSet _ f =>
    presence [f.policy.isSome, f.dReq.isSome, f.dMin.isSome, f.tWait.isSome, f.w.isSome] f.stray ::
      (sent8 f.policy ++ sent16 f.dReq ++ sent16 f.dMin ++ sent16 f.tWait ++ sent16 f.w)
  | .modeRun _ target => [target]
  | .modeStandby _ => [1]
  | .modeDoze _ => [2]
  | .modeWake _ => [3]
  | .modeAutodoze _ f =>
    presence [f.autoDoze.isSome, f.delay.isSome, f.polarity.isSome] f.stray ::
      (sent8 f.autoDoze ++ sent8 f.delay ++ sent8 f.polarity)
  | .motionStart _ f => presence [f.edge.isSome] f.stray :: (le16 f.rate ++ [f.batch, f.identity] ++ sent8 f.edge)
  | .biasSet _ f =>
    presence [f.x.isSome, f.y.isSome, f.z.isSome] f.stray :: (sent16 f.x ++ sent16 f.y ++ sent16 f.z)
  | .calibrate _ f => presence [f.stillness.isSome] f.stray :: (le16 f.n ++ sent16 f.stillness)
  | .recentre _ f =>
    if f.mode = 1 ∨ f.mode = 2 then f.mode :: (le32 f.yaw ++ le32 f.pitch ++ le32 f.roll) else [f.mode]
  | .wakefilterSet _ f => [f.index, f.enable, f.axes] ++ le16 f.threshold ++ [f.runCount]
  | .audioSet _ f =>
    presence [f.gainL.isSome, f.gainR.isSome, f.prefill.isSome, f.blockSize.isSome] f.stray ::
      (sent16 f.gainL ++ sent16 f.gainR ++ sent16 f.prefill ++ sent16 f.blockSize)
  | .monitorSet _ f =>
    presence [f.mask.isSome, f.divider.isSome] f.stray ::
      (sent8 f.mask ++ sent16 f.divider ++ num8 f.items.length ++ f.items.flatMap itemBytes)
  | .roundOneShot _ mode first last => [mode, first, last]
  | .roundContinuous _ first last => [1, first, last]
  | .allowanceSet _ allowance => le16 allowance
  | .limitsSet _ f =>
    presence [f.rs.isSome, f.vuv.isSome, f.wFloor.isSome, f.ts.isSome, f.tLim.isSome] f.stray ::
      (sent16 f.rs ++ sent16 f.vuv ++ sent16 f.wFloor ++ sent16 f.ts ++ sent16 f.tLim)
  | _ => []

/-- The tag of a host command; 0 for a row that is not a host command. -/
def commandTag : Instr → Byte
  | .identify tag | .statusRead tag | .statusReadClear tag | .reset tag | .timingSet tag _ | .timingGet tag
  | .sync tag _ | .strobeSet tag _ | .strobeGet tag | .shiftSet tag _ | .shiftGet tag | .shiftProbe tag _ _
  | .holdSet tag _ | .holdTable tag | .laneSet tag _ | .laneGet tag | .modeRun tag _ | .modeStandby tag
  | .modeDoze tag | .modeWake tag | .modeAutodoze tag _ | .modeGet tag | .wakesourceRead tag | .wakesourceClear tag
  | .motionStart tag _ | .motionStop tag | .motionGet tag | .biasSet tag _ | .biasGet tag | .calibrate tag _
  | .recentre tag _ | .wakefilterSet tag _ | .wakefilterGet tag | .audioSet tag _ | .audioPlayStart tag
  | .audioPlayStop tag | .micStart tag | .micStop tag | .audioGet tag | .monitorSet tag _ | .monitorStop tag
  | .monitorGet tag | .roundOneShot tag _ _ _ | .roundContinuous tag _ _ | .allowanceSet tag _ | .allowanceGet tag
  | .limitsSet tag _ | .limitsGet tag => tag
  | _ => 0

/-- The bytes of the record that carries a host command (section 10.1). -/
def commandRecord (c : Instr) : List Byte := recordBytes 1 (commandCode c) (commandTag c) (payloadOf c)

end Sys2Proof.Machine
end

