-- ==== Sys2Proof/Safety.lean ====
section
/-! DEFINITION. The terms the claims use: when a host command is executed and what its reply does at the Sideband
Message Port, and, block by block, what a sound state of the part is. Each `…Sound` predicate is one that every step
keeps; the docstrings name the rules it comes from. -/

namespace Sys2Proof.Machine

/-! ## Host commands and their replies -/

/-- A host command is executed: the part is not held in reset, and the interpreter has the command with its 10 µs run
(R154) or, for a sender that puts the execution into the queue itself, a reply entry is FREE (log entry 7). -/
abbrev State.Runs (s : State) (c : Instr) : Prop :=
  s.mdc.inReset = false ∧ (s.smp.executes c = true ∨ 0 < s.smp.freeEntries)

/-- The port as the execution event begins: the interpreter is free again, or an entry has been reserved (R153,
R154). -/
def Smp.claimed (x : Smp) (c : Instr) : Smp :=
  if x.executes c then { x with interp := none } else { x with reserved := x.reserved + 1 }

/-- The port once a reply has been made in a RESERVED entry: it is HELD behind the replies made before it, and with the
lane free the oldest of them is being sent (R152, R154, R158). -/
def Smp.replied (x : Smp) (r : Reply) : Smp :=
  match x.sending, x.held with
  | none, [] => { x with reserved := x.reserved - 1, sending := some (.reply r) }
  | none, first :: rest =>
    { x with reserved := x.reserved - 1, held := rest ++ [r], sending := some (.reply first) }
  | some _, held => { x with reserved := x.reserved - 1, held := held ++ [r] }

/-- A state at the beginning of the execution event of a command. -/
def State.claiming (s : State) (c : Instr) : State := s.withSmp (s.smp.claimed c)

/-- A state with a reply to a command made. -/
def State.replying (s : State) (c : Instr) (status : Status) (data : List Byte) : State :=
  s.withSmp (s.smp.replied
    { code := commandCode c, tag := commandTag c, status := status, data := data, clears := false })

/-- A state in which a command has been executed with no effect but its reply. -/
def State.answering (s : State) (c : Instr) (status : Status) (data : List Byte) : State :=
  (s.claiming c).replying c status data

/-! ## Frame Timebase -/

/-- The fields of a timing set lie in the ranges of the table of R5. -/
abbrev TimingSet.InRange (t : TimingSet) : Prop :=
  4000 ≤ t.p ∧ t.p ≤ 20000 ∧ 100 ≤ t.l ∧ t.l ≤ 1250 ∧ t.wReq ≤ 20000 ∧ t.iPk ≤ 1500 ∧ t.syncWidth ≤ 20000 ∧
    t.ppdX ≤ 16383 ∧ t.ppdY ≤ 16383 ∧ t.maxX ≤ 255 ∧ t.maxY ≤ 120 ∧ 1000 ≤ t.hMax ∧ t.hMax ≤ 50000 ∧ t.hold ≤ 15

/-- Both sets are consistent and in range (R5, R6), FC counts 0 … P − 1 (R2), and a wrap is due after P − 1 only. -/
abbrev State.FrameSound (s : State) : Prop :=
  s.ftb.live.consistent ∧ s.ftb.staged.consistent ∧ s.ftb.live.InRange ∧ s.ftb.staged.InRange ∧
    s.ftb.fc < s.ftb.live.p ∧ (s.ftb.wrapDue → s.ftb.fc + 1 = s.ftb.live.p)

/-- In POWER_FAIL the strobe is cut and the audio held, and under the cut both strobe outputs are off (R14, R106,
R107, R130). -/
abbrev State.PowerFailSound (s : State) : Prop :=
  (s.gov.state = .powerFail → s.ftb.cut) ∧ (s.ftb.cut → !s.ftb.strobe.l ∧ !s.ftb.strobe.r) ∧
    (s.aud.powerFailHold ↔ s.gov.state = .powerFail)

/-! ## Slice Memory -/

/-- How many cells hold a slice that a test admits. -/
def Slm.countCells (m : Slm) (p : Slice → Bool) : Nat := m.cells.countP (fun c => c.any p)

/-- The burst in progress is a slice burst that fills a cell. -/
def Burst.isSlice : Burst → Bool
  | .slice _ => true
  | .none | .lost | .skipped | .audio _ _ => false

/-- The table has 40 cells; at most one is READY for an eye and index (R30); a cell is FILLING exactly when it is the
cell of the slice burst in progress, which is in progress on an ACTIVE lane (R20, R27, R29, R30); and every slice has
an index below 16. -/
abbrev State.SlicesSound (s : State) : Prop :=
  s.slm.cells.length = 40 ∧
    (∀ e ∈ [Eye.left, Eye.right], ∀ k ∈ List.range 16,
      s.slm.countCells (fun x => x.phase = .ready && x.eye = e && x.index = k) ≤ 1) ∧
    (∀ i ∈ List.range 40, ((s.slm.slice i).any (fun x => x.phase = .filling) ↔ s.plr.burst = .slice i)) ∧
    (s.plr.burst.isSlice → s.plr.lane = .active) ∧
    s.slm.cells.all (fun c => c.all (fun x => x.index < 16))

/-! ## Motion Unit -/

/-- The entries of the ring carry consecutive sequence numbers up to the newest (R65). -/
def ringSound : List RingEntry → W16 → Bool
  | [], _ => true
  | x :: xs, newest => x.seq + BitVec.ofNat 16 xs.length = newest && ringSound xs newest

/-- The ring holds at most 128 consecutive samples (R65), the residues are below 10^6 (R64), the bias is in its range
(R70), the report under assembly and the queued reports have at most 8 samples (R67), and the queue at most 4 reports
(R69). -/
abbrev State.MotionSound (s : State) : Prop :=
  s.mot.ring.length ≤ 128 ∧ ringSound s.mot.ring s.mot.seq ∧
    s.mot.residue.yaw < 1000000 ∧ s.mot.residue.pitch < 1000000 ∧ s.mot.residue.roll < 1000000 ∧
    (-2048 ≤ s.mot.bias.x ∧ s.mot.bias.x ≤ 2047) ∧ (-2048 ≤ s.mot.bias.y ∧ s.mot.bias.y ≤ 2047) ∧
    (-2048 ≤ s.mot.bias.z ∧ s.mot.bias.z ≤ 2047) ∧ 1 ≤ s.mot.batch ∧ s.mot.batch ≤ 8 ∧
    s.mot.draft.all (fun d => 0 < d.samples.length && d.samples.length < 8) ∧ s.mot.queue.length ≤ 4 ∧
    s.mot.queue.all (fun r => 0 < r.samples.length && r.samples.length ≤ 8) ∧ s.mot.filters.length = 4

/-! ## Audio Unit -/

/-- An audio burst in progress has 1 … 1,024 frames (R22). -/
def Burst.countSound : Burst → Bool
  | .audio _ n => 1 ≤ n && n ≤ 1024
  | .none | .lost | .skipped | .slice _ => true

/-- The playout queue holds at most 16 blocks and 4,096 frames and is empty in STOPPED (R97, R98, R104), no block in it
is used up (R101), a ramp's step is 1 … 32 (R103), the uplink queue holds at most 6 blocks (R110), a microphone block
under assembly is short of its size (R109), and an audio burst in progress has 1 … 1,024 frames (R22). -/
abbrev State.AudioSound (s : State) : Prop :=
  s.aud.queue.length ≤ 16 ∧ s.aud.fill ≤ 4096 ∧ s.aud.queue.all (fun b => b.consumed < b.samples.length) ∧
    (s.aud.playout = .stopped → s.aud.queue = [] ∧ !s.aud.underrun) ∧
    s.aud.ramp.all (fun r => 1 ≤ r.step && r.step ≤ 32) ∧ s.aud.uplink.length ≤ 6 ∧
    s.aud.micDraft.all (fun d => d.samples.length < d.size && d.size ≤ 960) ∧
    s.aud.gainL ≤ 256 ∧ s.aud.gainR ≤ 256 ∧ 48 ≤ s.aud.prefill ∧ s.aud.prefill ≤ 4096 ∧
    80 ≤ s.aud.blockSize ∧ s.aud.blockSize ≤ 960 ∧
    s.plr.burst.countSound

/-! ## Supply Monitor and Power Governor -/

/-- The low limit of an input is not above its high limit (R121, R124). -/
def WatchLimits.ordered (x : WatchLimits) : Bool :=
  match x.low, x.high with
  | some low, some high => low.value ≤ high.value
  | _, _ => true

/-- A round converts inputs up to M7 in order (R115, R119). -/
def Round.sound (r : Round) : Bool := r.first ≤ r.input && r.input ≤ r.last && r.last ≤ 7 && r.left ≤ 50

/-- Eight entries and eight ordered pairs of limits; a round and a waiting round stay within M0 … M7; the divider count
is below the divider, and 0 with a divider of 0 (R116, R119, R121, R122). -/
abbrev State.MonitorSound (s : State) : Prop :=
  s.mon.entries.length = 8 ∧ s.mon.limits.length = 8 ∧ s.mon.limits.all WatchLimits.ordered ∧
    s.mon.round.all Round.sound ∧ s.mon.waiting.all (fun w => w.first ≤ w.last && w.last ≤ 7) ∧
    s.mon.divider ≤ 255 ∧ (s.mon.divider = 0 → s.mon.divCount = 0) ∧
    (0 < s.mon.divider → s.mon.divCount < s.mon.divider)

/-- The cap is 128 in SHEDDING and 256 in NORMAL and LIMITING (R127), the recovery count is below 3 and 0 outside
POWER_FAIL (R130, R131), and the settings are in range with T_s below T_lim (R128, R129). -/
abbrev State.GovernorSound (s : State) : Prop :=
  (s.gov.state = .shedding → s.gov.cap = 128) ∧ (s.gov.state = .normal ∨ s.gov.state = .limiting → s.gov.cap = 256) ∧
    (s.gov.cap = 128 ∨ s.gov.cap = 256) ∧ s.gov.recovery < 3 ∧ (s.gov.state ≠ .powerFail → s.gov.recovery = 0) ∧
    s.gov.allowance ≤ 30000 ∧ s.gov.rs ≤ 2000 ∧ 6500 ≤ s.gov.vuv ∧ s.gov.vuv ≤ 14000 ∧ s.gov.wFloor ≤ 2000 ∧
    s.gov.ts < s.gov.tLim ∧ s.gov.tLim ≤ 1000

/-! ## Mode Controller -/

/-- Which panel states and scanning states go with a device state, its prior state and its panel strand: the table of
section 8.1 with R135, R136, R141 and R144. -/
def panelsFit (device : Device) (prior : Option Prior) (done : Bool) (panel : Panel) (mode : ScanState) : Bool :=
  match device, prior with
  | .standby, none => panel = .off && mode = .stopped
  | .starting, none => (panel = .powering && mode = .stopped) || (panel = .on && mode = .startPending)
  | .run, none => panel = .on && mode = .scanning
  | .stopping, none => (panel = .on && mode = .stopPending) || (panel = .poweringDown && mode = .stopped)
  | .dozeEntry, some .standby => panel = .off && mode = .stopped && done
  | .dozeEntry, some .run =>
    (panel = .on && mode = .stopPending && !done) || (panel = .poweringDown && mode = .stopped && !done) ||
      (panel = .off && mode = .stopped && done)
  | .doze, some _ => panel = .off && mode = .stopped
  | .waking, some .standby => panel = .off && mode = .stopped && done
  | .waking, some .run =>
    (panel = .powering && mode = .stopped && !done) || (panel = .on && mode = .startPending && !done) ||
      (panel = .on && mode = .scanning && done)
  | _, _ => false

/-- The panels, the Scanout Engine and the prior state follow the device state (section 8.1); a deferred MODE belongs to
a transition in progress (R134); the off-head timer runs exactly under its three conditions (R145); and the hold at
PLR is in force in DOZE_ENTRY and DOZE (R142). A part held in reset is in STANDBY (R149). -/
abbrev State.ModeSound (s : State) : Prop :=
  panelsFit s.mdc.device s.mdc.prior s.mdc.donePanels s.mdc.panel s.scn.mode ∧
    (s.mdc.modeTag.isSome → s.mdc.device.moving) ∧ (s.mdc.offHead.isSome ↔ s.mdc.offHeadRuns) ∧
    (s.plr.hold ↔ s.mdc.device = .dozeEntry ∨ s.mdc.device = .doze) ∧
    (s.mdc.inReset → s.mdc.device = .standby) ∧ 1 ≤ s.mdc.delay ∧ s.mdc.delay ≤ 60

/-- The lane is DOWN exactly without a line signal (R19, R20), and under the hold an ACTIVE lane has a burst in
progress (R142). -/
abbrev State.LaneSound (s : State) : Prop :=
  (!s.mdc.inReset → (s.plr.lane = .down ↔ !s.plr.signal)) ∧
    (s.plr.hold ∧ s.plr.lane = .active → s.plr.burst ≠ .none)

/-- The frame's fixed values and the report under assembly are held exactly while a frame is scanned, in SCANNING and
STOP_PENDING (R40, R46, R50, R54). -/
abbrev State.ScanSound (s : State) : Prop :=
  (s.scn.frame.isSome ↔ s.scn.mode = .scanning ∨ s.scn.mode = .stopPending) ∧
    (s.scn.report.isSome ↔ s.scn.mode = .scanning ∨ s.scn.mode = .stopPending)

/-! ## Sideband Message Port -/

/-- 1 for a deferred command in flight. -/
def inFlight {α : Type} (t : Option α) : Nat := if t.isSome then 1 else 0

/-- The commands taken and not yet answered: those in the inbound queue, the one begun, and the deferred ones in flight
(R153 to R155). -/
def State.unanswered (s : State) : Nat :=
  s.smp.inbound.length + inFlight s.smp.interp + inFlight s.mdc.modeTag + inFlight s.mot.starting +
    inFlight s.mot.cal + inFlight s.mon.oneShotTag

/-- A transaction that changes the sensor's rate belongs to a Motion Unit that has started (R74, R75). -/
def Tx.rateWanted (t : Tx) : Bool := t.wanted && (t.kind = .rateWatch || t.kind = .rateRun)

/-- Each deferred operation has its owner at work: MODE a transition, MOTION START the state STARTING, ROUND ONE_SHOT its
round running or waiting (R155). -/
abbrev State.DeferredSound (s : State) : Prop :=
  (s.mdc.modeTag.isSome → s.mdc.device.moving) ∧ (s.mot.starting.isSome → s.mot.state = .starting) ∧
    (s.mot.bus.any Tx.rateWanted ∨ s.mot.waiting.any Tx.rateWanted →
      s.mot.state = .running ∨ s.mot.state = .stalled ∨ s.mot.state = .dozeWatch) ∧
    (s.mon.oneShotTag.isSome → !s.mon.series ∧
      ((s.mon.round.any (fun r => r.kind = .oneShot) ∧ s.mon.waiting = none) ∨
        (s.mon.round.any (fun r => r.kind = .frame) ∧ s.mon.waiting.any (fun w => w.kind = .oneShot))))

/-- The ledger of replies: every command taken and not yet answered has its RESERVED entry and no other entry is
RESERVED, the 16 entries suffice, and the inbound queue holds at most 8 commands (R152 to R155). -/
abbrev State.LedgerSound (s : State) : Prop :=
  s.DeferredSound ∧ s.smp.reserved = s.unanswered ∧ s.smp.reserved + s.smp.held.length ≤ 16 ∧
    s.smp.inbound.length ≤ 8

/-- Every counter is at most 65,535, and at least what a pending subtraction holds (section 9.7, R160). -/
abbrev State.CountersSound (s : State) : Prop :=
  (∀ k ∈ Counter.all, s.smp.counters.get k ≤ 65535) ∧
    (∀ d ∈ s.smp.subtraction.toList, ∀ k ∈ Counter.all, d.get k ≤ s.smp.counters.get k)

/-- Some source of the upstream arbiter holds a record (section 9.6). -/
def State.hasRecord (s : State) : Bool :=
  !s.smp.held.isEmpty || !s.smp.notices.isEmpty || !s.mot.queue.isEmpty || !s.aud.uplink.isEmpty ||
    s.smp.frameSlot.isSome || s.smp.monSlot.isSome

/-- The lane upstream is never free while a source holds a record (R158), and the notice queue holds at most 8
(R157). -/
abbrev State.UpstreamSound (s : State) : Prop :=
  (s.smp.sending = none → s.hasRecord = false) ∧ s.smp.notices.length ≤ 8

/-! ## Resets and events -/

/-- The part after a reset: `State.reset` but for what a reset does not reach (R39, R78, R114, R148): the input lines,
the sensor, the I2S clock and the commands waiting for `step`. A line signal that is present puts the lane in TRAINING
from the start. -/
def State.afterReset (s : State) (cause : ResetCause) (wake : Option WakeRecord) (held : Bool) : State :=
  { State.reset with
    plr := { State.reset.plr with
      signal := s.plr.signal, lane := if s.plr.signal then .training else .down,
      trainLeft := if s.plr.signal then 2000 else 0 },
    mot := { State.reset.mot with sensor := s.mot.sensor },
    aud := { State.reset.aud with
      i2sPhase := s.aud.i2sPhase, periodDue := s.aud.periodDue, micPhase := s.aud.micPhase, micDue := s.aud.micDue },
    mdc := { State.reset.mdc with
      proximityHigh := s.mdc.proximityHigh, sidebandSignal := s.mdc.sidebandSignal,
      wakeRecord := wake, resetCause := cause, inReset := held },
    pending := s.pending }

/-- The commands that reach a part held in reset: the resets themselves, the input lines and the I2S clock (R114,
R132, R148). -/
def actsInReset : Instr → Bool
  | .resetRelease | .powerOnReset | .supplyDipReset | .sidebandLoss | .sidebandSignalPresent | .signalDetected
  | .signalLoss | .proximityEdge _ | .outputPeriod => true
  | _ => false

/-- The commands that reset the part or release it. -/
def resetsThePart : Instr → Bool
  | .resetRelease | .powerOnReset | .supplyDipReset | .sidebandLoss | .reset _ => true
  | _ => false

/-- The Mode Controller awaits no answer from PLR: it is neither entering a doze nor waking from one (R142, R144). -/
abbrev State.LaneFree (s : State) : Prop := s.mdc.device ≠ .dozeEntry ∧ s.mdc.device ≠ .waking

/-! ## The frame that a wrap begins -/

/-- The Frame Timebase once a wrap has been taken, with the pulses of the frame that begins (R2, R11, R12, R14, R15). -/
def Ftb.wrapped (f : Ftb) (powerFail : Bool) (pulse : Eyes (Option Pulse)) : Ftb :=
  { f with
    fc := 0, wrapDue := false, fs := f.fs + 1, frameStart := f.tbc, live := f.staged, pulse := pulse,
    marked2 := false, marked3 := false, marked4 := false, cut := f.cut && powerFail,
    syncActive := if f.live.syncPolarity = f.staged.syncPolarity then f.syncActive
      else 0 < f.staged.syncWidth && f.staged.syncTick = 0 }

/-- The strobe width of the frame that begins (R46). -/
def State.widthAtWrap (s : State) : Nat :=
  if s.gov.state = .powerFail then 0 else min s.ftb.staged.wReq s.gov.wLimit

/-- The pulses of the frame that begins (R12, R13). -/
def State.pulsesAtWrap (s : State) : Eyes (Option Pulse) :=
  { l := (pulseOf s.ftb.staged.cL s.widthAtWrap s.ftb.staged.p).1,
    r := (pulseOf s.ftb.staged.cR s.widthAtWrap s.ftb.staged.p).1 }

/-- What the Scanout Engine fixes for the frame that begins (R46, R48, R54). -/
def State.fixAtWrap (s : State) : FrameFix :=
  { fs := s.ftb.fs + 1, start := s.ftb.tbc, p := s.ftb.staged.p, wEff := s.widthAtWrap,
    clipped := (pulseOf s.ftb.staged.cL s.widthAtWrap s.ftb.staged.p).2 ||
      (pulseOf s.ftb.staged.cR s.widthAtWrap s.ftb.staged.p).2,
    gov := s.gov.state, wLimit := s.gov.wLimit, tpL := s.ftb.tbc + BitVec.ofNat 32 s.ftb.staged.cL,
    tpR := s.ftb.tbc + BitVec.ofNat 32 s.ftb.staged.cR }

/-- The age of a RETAINED cell is the time since its scan end, until it saturates (R28). -/
abbrev State.AgesSound (s : State) : Prop :=
  ∀ c ∈ s.slm.cells, ∀ x ∈ c.toList, x.phase = .retained → x.age ≤ 2 ^ 32 - 1 ∧ x.scanEnd.isSome ∧
    (x.age < 2 ^ 32 - 1 → x.age = (s.ftb.tbc - x.scanEnd.getD 0).toNat)

end Sys2Proof.Machine
end

