-- ==== Sys2Proof/WellFormed.lean ====
section
/-! DEFINITION. Which terms of `Instr` stand for something a sender can send. The types of the operands settle
most of it; what remains is checked here. `exec` is total and gives an ill-formed term the effect its operands
spell, so nothing rests on the check but the readings of section 10.5. -/

namespace Sys2Proof

/-- The operands of a command are values its row can carry. -/
def Instr.wellFormed : Instr → Bool
  | .burstStart header => header.length ≤ 11
  | .burstEnd _ crc => crc.length ≤ 4
  | .recordReceived bytes => bytes ≠ []
  | .recordLengthReject bytes => bytes ≠ []
  | .modeRun _ target => target ≠ 1 ∧ target ≠ 2 ∧ target ≠ 3
  | .recentre _ f => f.mode = 1 ∨ f.mode = 2 ∨ (f.yaw = 0 ∧ f.pitch = 0 ∧ f.roll = 0)
  | .monitorSet _ f => f.items.length ≤ 255
  | .roundOneShot _ mode _ _ => mode ≠ 1
  | _ => true

end Sys2Proof
end

