-- ==== Sys2Proof/Certificates/Slice0/Obligations.lean ====
section
/-! DEFINITION. The statements for the provers. A host command's statement holds wherever the command is executed
(`State.Runs`), an event's wherever the event is due; each gives the whole next state, so that it says the effect, the
frame and the completion at once. -/

section Claims
open Sys2Proof Sys2Proof.Machine

/-! ## The machine -/

/-- A step with a command waiting runs the command at the front on the state with the queue's rest. -/
def Obligations.StepRunsTheFrontCommand : Prop :=
  ∀ (c : Instr) (rest : List Instr) (s : State), s.pending = c :: rest → step s = exec c (s.withPending rest)

/-- A step with no command waiting takes the part's own next event; where none is due it waits for a value from
outside, and otherwise one microsecond passes (the model's choice: log entries 6, 8, 9 and 10). A microsecond that
passes: TBC advances by one (R1), FC advances and a wrap is due after P − 1 (R2), a RETAINED cell ages by one and
saturates (R28), the I2S clock gains 48 of its 1,000 parts, the byte gap of a record counts, the interpreter's 10
microseconds, the timers and the detector's count run, and nothing else changes. A part held in reset has only its I2S
clock. -/
def Obligations.StepWithNoCommandWaiting : Prop :=
  (∀ s : State, s.pending = [] →
    (∀ c, s.nextEvent = some c → step s = exec c s) ∧
    (s.nextEvent = none → s.waitsForValue = true → step s = .next s) ∧
    (s.nextEvent = none → s.waitsForValue = false → step s = .next s.tick)) ∧
  (∀ s : State, s.pending = [] → s.nextEvent = none → s.waitsForValue = false →
    let i2s : Aud := if s.aud.i2sPhase + 48 < 1000
      then { s.aud with i2sPhase := s.aud.i2sPhase + 48, micDue := false }
      else { s.aud with i2sPhase := s.aud.i2sPhase + 48 - 1000, periodDue := true, micDue := false }
    (s.mdc.inReset = true → step s = .next (s.withAud i2s)) ∧
    (s.mdc.inReset = false → ∃ t, step s = .next t ∧
      t.ftb = (if s.ftb.fc + 1 < s.ftb.live.p then { s.ftb with tbc := s.ftb.tbc + 1, fc := s.ftb.fc + 1 }
        else { s.ftb with tbc := s.ftb.tbc + 1, wrapDue := true }) ∧
      t.plr = { s.plr with trainLeft := s.plr.trainLeft - 1, waitLeft := s.plr.waitLeft - 1 } ∧
      t.slm.up = s.slm.up ∧ t.slm.cells.length = s.slm.cells.length ∧
      (∀ i x, s.slm.slice i = some x → t.slm.slice i =
        some (if x.phase = .retained then { x with age := min (x.age + 1) 4294967295 } else x)) ∧
      (∀ i, s.slm.slice i = none → t.slm.slice i = none) ∧
      t.scn = s.scn ∧ t.gov = s.gov ∧ t.pending = [] ∧ t.aud = i2s ∧
      t.mon = { s.mon with round := s.mon.round.map (fun r => { r with left := r.left - 1 }) } ∧
      t.mdc = { s.mdc with
        panelLeft := s.mdc.panelLeft - 1, offHead := s.mdc.offHead.map (· + 1),
        sidebandTime := min (s.mdc.sidebandTime + 1) 50000 } ∧
      t.mot = { s.mot with
        bus := s.mot.bus.map (fun x => { x with left := x.left - 1 }),
        firstLeft := s.mot.firstLeft.map (· - 1), stallLeft := s.mot.stallLeft.map (· - 1) } ∧
      t.smp = { s.smp with
        rxIdle := if 2 ≤ s.smp.rx.length then s.smp.rxIdle + 1 else s.smp.rxIdle,
        interp := s.smp.interp.map (fun b => { b with left := b.left - 1 }) }))

/-- Every command answers a next state in every state. That nothing stops the part is the model's reading (log entry
2), and that an event which is not due answers an unchanged state is the model's choice (log entry 5). -/
def Obligations.EveryCommandAnswersANextState : Prop :=
  ∀ (c : Instr) (s : State), ∃ t, exec c s = .next t

/-- A part held in reset is reached only by the resets, the input lines and the I2S clock (R114, R132). A host command
put into the queue with no FREE reply entry has no effect and is counted as unheard (R153 with the model's choice of
log entry 7). -/
def Obligations.CommandsThatCannotRun : Prop :=
  (∀ (c : Instr) (s : State), s.mdc.inReset = true → actsInReset c = false → exec c s = .next s) ∧
  (∀ (c : Instr) (s : State), commandCode c ≠ 0 → s.mdc.inReset = false → s.smp.executes c = false →
    s.smp.freeEntries = 0 → exec c s = .next (s.count .unheard 1))

/-! ## Resets -/

/-- What each reset leaves, and what the sideband signal detector does (R3, R132, R148, R162): a loss of 50 ms resets
the part where the signal was present since the last reset. That POWER_ON_RESET and SUPPLY_DIP_RESET hold the part
until RESET_RELEASE, and what reaches it meanwhile, is the model's reading (log entry 11), and so is the start of an
absence, for which the table has no row (log entry 14). -/
def Obligations.ResetsOfThePart : Prop :=
  ∀ s : State,
    exec .powerOnReset s = .next (s.afterReset .powerOn none true) ∧
    exec .supplyDipReset s = .next (s.afterReset .supplyDip none true) ∧
    (s.mdc.inReset = true → exec .resetRelease s = .next (s.afterReset s.mdc.resetCause s.mdc.wakeRecord false)) ∧
    (s.mdc.inReset = false → exec .resetRelease s = .next s) ∧
    (∀ tag, s.Runs (.reset tag) →
      exec (.reset tag) s = .next (s.afterReset .resetCommand s.mdc.wakeRecord false)) ∧
    (s.mdc.inReset = false → s.mdc.sidebandSignal = true → 50000 ≤ s.mdc.sidebandTime → exec .sidebandLoss s =
      .next ((s.withMdc { s.mdc with sidebandSignal := false }).afterReset .sidebandLoss s.mdc.wakeRecord false)) ∧
    (s.mdc.inReset = false → s.mdc.sidebandSeen = true → s.mdc.sidebandTime < 50000 →
      exec .sidebandLoss s = .next s) ∧
    (s.mdc.inReset = true ∨ (s.mdc.sidebandSignal = false ∧ 50000 ≤ s.mdc.sidebandTime) ∨
        (s.mdc.sidebandSeen = false ∧ s.mdc.sidebandTime < 50000) →
      exec .sidebandLoss s = .next (s.withMdc { s.mdc with sidebandSignal := false })) ∧
    exec .sidebandSignalPresent s =
      .next (s.withMdc { s.mdc with sidebandSignal := true, sidebandSeen := true, sidebandTime := 0 })

/-- Every reset leaves the Sideband Message Port with everything empty, free and 0 (R163), and its owners' queues
empty. -/
def Obligations.EveryResetEmptiesThePort : Prop :=
  ∀ s t : State,
    (exec .powerOnReset s = .next t ∨ exec .supplyDipReset s = .next t ∨
      (s.mdc.inReset = true ∧ exec .resetRelease s = .next t) ∨
      (∃ tag, s.Runs (.reset tag) ∧ exec (.reset tag) s = .next t) ∨
      (s.mdc.inReset = false ∧ s.mdc.sidebandSignal = true ∧ 50000 ≤ s.mdc.sidebandTime ∧
        exec .sidebandLoss s = .next t)) →
    t.smp.receiving = false ∧ t.smp.rx = [] ∧ t.smp.inbound = [] ∧ t.smp.interp = none ∧ t.smp.freeEntries = 16 ∧
      t.smp.reserved = 0 ∧ t.smp.held = [] ∧ t.unanswered = 0 ∧ t.smp.notices = [] ∧ t.smp.frameSlot = none ∧
      t.smp.monSlot = none ∧ t.mot.queue = [] ∧ t.aud.uplink = [] ∧ t.smp.sending = none ∧
      (∀ k, t.smp.counters.get k = 0) ∧ t.smp.subtraction = none

/-- The values right after a reset, block by block: those of the tables R5, R18, R39, R56, R78, R95, R114, R133, R149
and R163, with the reset cause of a power-on reset (R148). The model's own: the input lines and the phases of the I2S
clock (log entry 1), the sensor, which has received nothing yet (log entry 17), and the state that only the rules imply
(log entry 30). The state right after reset meets every predicate that the invariants below keep. -/
def Obligations.ResetStateHasItsValuesAndIsSound : Prop :=
  (let timing : TimingSet :=
      { p := 11111, s := 300, l := 600, monTick := 100, cL := 10500, cR := 10500, wReq := 0, iPk := 0, w := 10800,
        syncPolarity := .activeHigh, syncTick := 0, syncWidth := 0, shiftEnable := false, ppdX := 5120, ppdY := 5120,
        maxX := 64, maxY := 60, hMax := 25000, hold := 2 }
    let off : WakeFilter := { enabled := false, axes := 0, threshold := 32767, runCount := 64, counter := 0 }
    let entry : Entry :=
      { value := 0, tbc := none, least := none, greatest := none, unreported := false, overwritten := false }
    let unlimited : WatchLimits := { low := none, high := none }
    State.reset.ftb =
      { tbc := 0, fc := 0, wrapDue := false, fs := 0, frameStart := 0, live := timing, staged := timing,
        marked2 := false, marked3 := false, marked4 := false, pulse := { l := none, r := none },
        strobe := { l := false, r := false }, cut := false, syncActive := false, slot := none, overrun := false,
        armed := false, edgeRising := true } ∧
    State.reset.plr =
      { signal := false, lane := .down, trainLeft := 0, waitLeft := 0, burst := .none, lastEnd := none,
        policy := false, dReq := 300, dMin := 800, tWait := 150, lastIdle := none, hold := false } ∧
    State.reset.slm = { cells := List.replicate 40 none, up := { l := none, r := none } } ∧
    State.reset.scn =
      { mode := .stopped, sched := { l := none, r := none }, frame := none, report := none,
        panel := { l := List.replicate 16 none, r := List.replicate 16 none } } ∧
    State.reset.mot =
      { state := .off, rate := 1000, batch := 4, expected := none, lastIdentity := none, starting := none,
        configured := false, firstLeft := none, stallLeft := none, bus := none, waiting := [], reading := none,
        sensor := .unset, bias := { x := 0, y := 0, z := 0 }, acc := { yaw := 0, pitch := 0, roll := 0 },
        residue := { yaw := 0, pitch := 0, roll := 0 }, prevTbc := none, seq := 0, integrated := false, ring := [],
        draft := none, queue := [], cal := none, lastAccel := none, accelRef := none,
        filters := [off, off, off, off], lastShift := { l := none, r := none } } ∧
    State.reset.aud =
      { playout := .stopped, underrun := false, queue := [], lastFrame := { l := 0, r := 0 }, ramp := none,
        powerFailHold := false, gainL := 256, gainR := 256, prefill := 720, blockSize := 320, cap := 256,
        micRunning := false, micDraft := none, blockSeq := 0, uplink := [], output := { l := 0, r := 0 },
        i2sPhase := 0, periodDue := false, micPhase := 0, micDue := false } ∧
    State.reset.mon =
      { round := none, pendingFrame := false, waiting := none, series := false, oneShotTag := none,
        entries := [entry, entry, entry, entry, entry, entry, entry, entry],
        limits := [unlimited, unlimited, unlimited, unlimited, unlimited, unlimited, unlimited, unlimited],
        mask := 0xFF, divider := 0, divCount := 0 } ∧
    State.reset.gov =
      { state := .normal, wLimit := 0, cap := 256, recovery := 0, allowance := 4500, rs := 500, vuv := 8000,
        wFloor := 200, ts := 400, tLim := 430, evaluation := none } ∧
    State.reset.mdc =
      { device := .standby, panel := .off, panelLeft := 0, prior := none, donePanels := false, doneAudio := false,
        doneMotion := false, doneLane := false, modeTag := none, wakeKind := none, autoDoze := false, delay := 30,
        onHigh := true, proximityHigh := false, offHead := none, wakeRecord := none, resetCause := .powerOn,
        sidebandSignal := false, sidebandSeen := false, sidebandTime := 0, inReset := false } ∧
    State.reset.smp =
      { rx := [], rxIdle := 0, inbound := [], interp := none, reserved := 0, held := [], notices := [],
        frameSlot := none, monSlot := none, sending := none,
        counters :=
          { badRecords := 0, unheard := 0, noticesLost := 0, malformed := 0, sliceCrc := 0, audioCrc := 0,
            lostToIdle := 0, noCell := 0, superseded := 0, saturation := 0, audioOverflow := 0, audioStopped := 0,
            underrun := 0, roundsSkipped := 0 },
        subtraction := none } ∧
    State.reset.smp.receiving = false ∧ State.reset.smp.freeEntries = 16 ∧ State.reset.pending = []) ∧
  (State.reset.FrameSound ∧ State.reset.PowerFailSound ∧ State.reset.SlicesSound ∧ State.reset.AgesSound ∧
    State.reset.MotionSound ∧ State.reset.AudioSound ∧ State.reset.MonitorSound ∧ State.reset.GovernorSound ∧
    State.reset.ModeSound ∧ State.reset.LaneSound ∧ State.reset.ScanSound ∧ State.reset.LedgerSound ∧
    State.reset.CountersSound ∧ State.reset.UpstreamSound)

/-! ## Invariants: each is kept by every step from every state that meets it -/

/-- Both timing sets stay consistent and in range, and FC stays below P: in every frame the sixteen slice windows fit
before the wrap, and each mark and centre falls inside the frame (R2, R5, R6). -/
def Obligations.StepKeepsTheFrameSound : Prop :=
  ∀ s t : State, s.FrameSound → step s = .next t → t.FrameSound

/-- No strobe output is on while the Governor is in POWER_FAIL, and the audio is held exactly then (R14, R106, R107).
-/
def Obligations.StepKeepsTheStrobesDarkInPowerFail : Prop :=
  ∀ s t : State, s.PowerFailSound → step s = .next t → t.PowerFailSound

/-- At most one cell is READY for an eye and index, and a cell is FILLING exactly while its slice burst is in progress
on an ACTIVE lane (R26, R29, R30). -/
def Obligations.StepKeepsTheSlicesSound : Prop :=
  ∀ s t : State, s.SlicesSound → step s = .next t → t.SlicesSound

/-- The age of a RETAINED cell stays the time since its scan end, and saturates (R28). -/
def Obligations.StepKeepsTheAgesTrue : Prop :=
  ∀ s t : State, s.AgesSound → step s = .next t → t.AgesSound

/-- The ring stays a run of at most 128 consecutive samples, the residues stay in 0 … 999,999, the bias in its range
and the report queue within its 4 places (R64, R65, R67, R69, R70). -/
def Obligations.StepKeepsTheMotionUnitSound : Prop :=
  ∀ s t : State, s.MotionSound → step s = .next t → t.MotionSound

/-- The playout queue stays within 16 blocks and 4,096 frames and is empty in STOPPED; the uplink queue stays within
its 6 blocks (R97, R98, R104, R110). -/
def Obligations.StepKeepsTheAudioUnitSound : Prop :=
  ∀ s t : State, s.AudioSound → step s = .next t → t.AudioSound

/-- The eight entries, the ordered pairs of limits, the ranges of the rounds and the divider count stay as R116 to
R122 have them. The cap stays 128 in SHEDDING and 256 in NORMAL and LIMITING, the recovery count below 3, and the
settings in range with T_s below T_lim (R127 to R131). -/
def Obligations.StepKeepsMonitorAndGovernorSound : Prop :=
  (∀ s t : State, s.MonitorSound → step s = .next t → t.MonitorSound) ∧
  (∀ s t : State, s.GovernorSound → step s = .next t → t.GovernorSound)

/-- The panels, the Scanout Engine, the prior state, the hold and the off-head timer keep following the device state
through every transition (section 8.1, R134 to R136, R141 to R145). The lane is DOWN exactly without a line signal,
and under the doze hold an ACTIVE lane has a burst in progress (R19, R20, R142). The values fixed for a frame and the
report under assembly are held exactly in SCANNING and STOP_PENDING (R40, R46, R50, R54). -/
def Obligations.StepKeepsModesAndLaneSound : Prop :=
  (∀ s t : State, s.ModeSound → step s = .next t → t.ModeSound) ∧
  (∀ s t : State, s.LaneSound → step s = .next t → t.LaneSound) ∧
  (∀ s t : State, s.ScanSound → step s = .next t → t.ScanSound)

/-- Every command taken and not yet answered keeps its RESERVED entry, no other entry is RESERVED, and the 16 entries
suffice: no reply is ever lost for want of an entry (R152 to R155). -/
def Obligations.StepKeepsTheReplyLedger : Prop :=
  ∀ s t : State, s.LedgerSound → step s = .next t → t.LedgerSound

/-- A counter never exceeds 65,535 and never holds less than the value a pending subtraction reported (section 9.7,
R160). The lane upstream is never free while a source holds a record, and the notice queue stays within 8 (R157,
R158). -/
def Obligations.StepKeepsCountersAndArbiterSound : Prop :=
  (∀ s t : State, s.CountersSound → step s = .next t → t.CountersSound) ∧
  (∀ s t : State, s.UpstreamSound → step s = .next t → t.UpstreamSound)

/-! ## Rules of the whole machine -/

/-- No command writes the live set: it changes at a frame wrap and at a reset only, and a command never moves TBC but
by a reset (R1, R2, section 1.2). -/
def Obligations.TheLiveSetChangesOnlyAtWraps : Prop :=
  ∀ (c : Instr) (s t : State), resetsThePart c = false → exec c s = .next t →
    t.ftb.tbc = s.ftb.tbc ∧ (c ≠ .frameWrap → t.ftb.live = s.ftb.live ∧ t.ftb.fs = s.ftb.fs ∧ t.ftb.fc = s.ftb.fc) ∧
      (t.ftb.live = s.ftb.live ∨ t.ftb.live = s.ftb.staged)

/-- Only a wake event or a reset ends a doze: MODE WAKE, an on-head edge of the proximity line, or a sample in
DOZE_WATCH that a wake filter matches, an enabled filter whose run count the sample's exceeding completes (R76, R143).
The sample is biased and saturated as R62 has it; without a reference, which no run reaches, the model's is 0. -/
def Obligations.OnlyAWakeEventEndsADoze : Prop :=
  ∀ (c : Instr) (s t : State), c.wellFormed = true → s.ModeSound → s.mdc.device = .doze →
    exec c s = .next t → t.mdc.device ≠ .doze →
      resetsThePart c = true ∨ (∃ tag, c = .modeWake tag) ∨
        (c = .proximityEdge s.mdc.onHigh ∧ s.mdc.proximityHigh ≠ s.mdc.onHigh) ∨
        ∃ raw, c = .sampleReadComplete raw ∧ s.mot.state = .dozeWatch ∧
          let sat (v bias : Int) : Int := max (-32768) (min 32767 (v - bias))
          let ref := s.mot.accelRef.getD { x := 0, y := 0, z := 0 }
          let moves : List Int :=
            [sat raw.gx.toInt s.mot.bias.x, sat raw.gy.toInt s.mot.bias.y, sat raw.gz.toInt s.mot.bias.z,
              raw.ax.toInt - ref.x.toInt, raw.ay.toInt - ref.y.toInt, raw.az.toInt - ref.z.toInt]
          ∃ f ∈ s.mot.filters, f.enabled = true ∧ f.runCount ≤ f.counter + 1 ∧
            ∃ axis v, moves[axis]? = some v ∧ f.axes.getLsbD axis = true ∧ f.threshold < v.natAbs

/-! ## The sideband downstream -/

/-- A well-formed host command, sent with the payload of section 10.5, is read back as itself, with every operand at
every value (section 10.5, R151, R166). -/
def Obligations.CommandsReadBackFromTheirPayloads : Prop :=
  ∀ i : Instr, i.wellFormed = true → commandCode i ≠ 0 →
    classify (commandCode i) (commandTag i) (payloadOf i) = .command i

/-- The record of a well-formed host command, whole on the lane, is accepted: its CRC agrees, it joins the tail of the
inbound queue and its reply entry is RESERVED (section 10.1, R150, R151, R153, R164). -/
def Obligations.ARecordQueuesItsCommand : Prop :=
  ∀ (i : Instr) (s : State), i.wellFormed = true → commandCode i ≠ 0 → s.mdc.inReset = false → s.smp.rx = [] →
    0 < s.smp.freeEntries → s.smp.inbound.length < 8 →
    exec (.recordReceived (commandRecord i)) s = .next (s.withSmp { s.smp with
      rxIdle := 0, inbound := s.smp.inbound ++ [i], reserved := s.smp.reserved + 1 })

/-- What becomes of the other records: an unknown code and a wrong length are answered at reception, a ninth command
is answered QUEUE_FULL, with no FREE entry the command is unheard, and a bad CRC, a kind other than COMMAND and a
payload length above 2,048 count as bad records (R150, R151, R153). -/
def Obligations.RecordsThatAreNotAccepted : Prop :=
  ∀ (s : State) (code tag : Byte) (payload : List Byte), s.mdc.inReset = false → s.smp.rx = [] →
    payload.length ≤ 2048 →
    let s₀ := s.withSmp { s.smp with rxIdle := 0 }
    let answer (st : Status) : State := (s₀.withSmp { s₀.smp with
      held := s₀.smp.held ++ [{ code := code, tag := tag, status := st, data := [], clears := false }] }).arbitrate
    (s.smp.freeEntries = 0 →
      exec (.recordReceived (recordBytes 1 code tag payload)) s = .next (s₀.count .unheard 1)) ∧
    (0 < s.smp.freeEntries → classify code tag payload = .unknown →
      exec (.recordReceived (recordBytes 1 code tag payload)) s = .next (answer .unknown)) ∧
    (0 < s.smp.freeEntries → classify code tag payload = .badLength →
      exec (.recordReceived (recordBytes 1 code tag payload)) s = .next (answer .badLength)) ∧
    (∀ c, 0 < s.smp.freeEntries → 8 ≤ s.smp.inbound.length → classify code tag payload = .command c →
      exec (.recordReceived (recordBytes 1 code tag payload)) s = .next (answer .queueFull)) ∧
    (∀ kind, kind ≠ 1 →
      exec (.recordReceived (recordBytes kind code tag payload)) s = .next (s₀.count .badRecords 1)) ∧
    (∀ kind crc, crc ≠ crc16 (recordBody kind code tag payload) →
      exec (.recordReceived ([0xC3, 0x3C] ++ recordBody kind code tag payload ++ le16 crc)) s =
        .next (s₀.count .badRecords 1)) ∧
    (∀ kind (n : W16), 2048 < n.toNat →
      exec (.recordLengthReject ([0xC3, 0x3C, kind, code, tag] ++ le16 n)) s =
        .next ((s₀.withSmp { s₀.smp with rx := hunt ([kind, code, tag] ++ le16 n) }).count .badRecords 1))

/-- The inbound timeout and the interpreter: an incomplete record is discarded 1,000 µs after its last byte and
counted (R150), and a free interpreter begins the oldest command, which executes 10 µs later (R154). The end of a
record upstream: the arbiter takes the oldest reply first, then a notice, a motion report, a microphone block, the
frame report and the monitor report; the record leaves its source, and with no record the lane is free (R158). What an
offer does while a record is being sent, and on a free lane with no record waiting: a ninth notice is dropped and
counted (R157), a fifth motion report and a seventh microphone block push out the oldest and carry its losses (R69,
R110), and a frame report replaces an unsent one and counts it (R55). -/
def Obligations.ThePortsTimeoutInterpreterAndArbiter : Prop :=
  (∀ s : State, s.mdc.inReset = false →
    (2 ≤ s.smp.rx.length → 1000 ≤ s.smp.rxIdle →
      exec .byteTimeout s = .next ((s.withSmp { s.smp with rx := [], rxIdle := 0 }).count .badRecords 1)) ∧
    (∀ c rest, s.smp.interp = none → s.smp.inbound = c :: rest →
      exec .commandBegin s =
        .next (s.withSmp { s.smp with inbound := rest, interp := some { command := c, left := 10 } }))) ∧
  (∀ (s : State) (u : Upstream), s.mdc.inReset = false → s.smp.sending = some u → u.clears = false →
    exec .recordSent s = .next
      (match s.smp.held, s.smp.notices, s.mot.queue, s.aud.uplink, s.smp.frameSlot, s.smp.monSlot with
        | r :: rest, _, _, _, _, _ => s.withSmp { s.smp with held := rest, sending := some (.reply r) }
        | [], n :: rest, _, _, _, _ => s.withSmp { s.smp with notices := rest, sending := some (.notice n) }
        | [], [], r :: rest, _, _, _ =>
          (s.withMot { s.mot with queue := rest }).withSmp { s.smp with sending := some (.motion r) }
        | [], [], [], b :: rest, _, _ =>
          (s.withAud { s.aud with uplink := rest }).withSmp { s.smp with sending := some (.audio b) }
        | [], [], [], [], some r, _ => s.withSmp { s.smp with frameSlot := none, sending := some (.frame r) }
        | [], [], [], [], none, some r => s.withSmp { s.smp with monSlot := none, sending := some (.monitor r) }
        | [], [], [], [], none, none => s.withSmp { s.smp with sending := none })) ∧
  (∀ s : State, s.smp.sending ≠ none →
    (∀ n : Notice,
      (s.smp.notices.length < 8 → s.notify n = s.withSmp { s.smp with notices := s.smp.notices ++ [n] }) ∧
      (8 ≤ s.smp.notices.length → s.notify n = s.withSmp { s.smp with
        counters := { s.smp.counters with noticesLost := min 65535 (s.smp.counters.noticesLost + 1) } })) ∧
    (∀ r : MotionReport,
      (s.mot.queue.length < 4 → s.offerMotion r = s.withMot { s.mot with queue := s.mot.queue ++ [r] }) ∧
      (∀ old rest, s.mot.queue = old :: rest → rest.length = 3 → s.offerMotion r = s.withMot { s.mot with
        queue := rest ++
          [{ r with dropped := min 65535 (r.dropped + (old.samples.length + old.dropped)) }] })) ∧
    (∀ b : MicBlock,
      (s.aud.uplink.length < 6 → s.offerMic b = s.withAud { s.aud with uplink := s.aud.uplink ++ [b] }) ∧
      (∀ old rest, s.aud.uplink = old :: rest → rest.length = 5 → s.offerMic b = s.withAud { s.aud with
        uplink := rest ++
          [{ b with lostBefore := min 65535 (b.lostBefore + (old.samples.length + old.lostBefore)) }] })) ∧
    (∀ r : FrameReport,
      (s.smp.frameSlot = none →
        s.offerFrame r = s.withSmp { s.smp with frameSlot := some { r with replaced := 0 } }) ∧
      (∀ old, s.smp.frameSlot = some old → s.offerFrame r = s.withSmp { s.smp with
        frameSlot := some { r with replaced := min 65535 (old.replaced + 1) } }))) ∧
  (∀ s : State, s.smp.sending = none → s.hasRecord = false →
    (∀ n : Notice, s.notify n = s.withSmp { s.smp with sending := some (.notice n) }) ∧
    (∀ r : MotionReport, s.offerMotion r = s.withSmp { s.smp with sending := some (.motion r) }) ∧
    (∀ b : MicBlock, s.offerMic b = s.withSmp { s.smp with sending := some (.audio b) }) ∧
    (∀ r : FrameReport,
      s.offerFrame r = s.withSmp { s.smp with sending := some (.frame { r with replaced := 0 }) }))

/-- STATUS READ_CLEAR, and the end of its reply: nothing counted is lost. The reported values are subtracted when the
reply's last byte has been sent, and what was counted meanwhile stays (R160). What the reply shows of the command
itself, its entry RESERVED and its own subtraction not yet pending, is the model's reading (log entry 18). -/
def Obligations.ReadClearLosesNoCount : Prop :=
  (∀ (tag : Byte) (s : State), s.Runs (.statusReadClear tag) → s.smp.subtraction.isSome = true →
    exec (.statusReadClear tag) s = .next (s.answering (.statusReadClear tag) .busy [])) ∧
  (∀ (tag : Byte) (s : State), s.Runs (.statusReadClear tag) → s.smp.subtraction = none →
    exec (.statusReadClear tag) s = .next (s.withSmp
      (({ s.smp.claimed (.statusReadClear tag) with subtraction := some s.smp.counters } : Smp).replied
        { code := 0x03, tag := tag, status := .ok, data :=
            Counter.all.flatMap (fun k => num16 (s.smp.counters.get k)) ++ le32 s.ftb.tbc ++
              num8 s.smp.inbound.length ++ num8 (s.smp.claimed (.statusReadClear tag)).reserved ++
              num8 s.smp.held.length ++ num8 s.smp.notices.length ++ [0],
          clears := true }))) ∧
  (∀ (s : State) (u : Upstream) (d : Counters), s.mdc.inReset = false → s.smp.sending = some u → u.clears = true →
    s.smp.subtraction = some d →
    ∃ t, exec .recordSent s = .next t ∧ (∀ k, t.smp.counters.get k = s.smp.counters.get k - d.get k) ∧
      t.smp.subtraction = none)

/-! ## Frame Timebase -/

/-- A frame wrap, by the scanning state it finds: what the Frame Timebase does, the width and the photon centres fixed
for a scanned frame, the report of the frame that ends, and the end of STARTING and of the scanning in STOPPING (R2,
R4, R12 to R15, R40, R46, R48, R54, R135, R136). An end request that falls with the wrap is left out here: the model
makes it first (log entries 6 and 22). -/
def Obligations.FrameWrapBeginsTheNextFrame : Prop :=
  ∀ s : State, s.mdc.inReset = false → s.FrameSound → s.wrapIsDue = true → s.endRequestIsDue = false →
    let powerFail := decide (s.gov.state = .powerFail)
    let dark := (s.withFtb (s.ftb.wrapped powerFail (Eyes.both none))).withScn { s.scn with frame := none, report := none }
    let lit := (s.withFtb (s.ftb.wrapped powerFail s.pulsesAtWrap)).withScn
      { s.scn with frame := some s.fixAtWrap, report := some Draft.empty }
    (s.scn.mode = .stopped → exec .frameWrap s = .next dark) ∧
    (∀ tag, s.scn.mode = .startPending → s.mdc.device = .starting → s.mdc.modeTag = some tag →
      exec .frameWrap s = .next (((lit.withScn { lit.scn with mode := .scanning }).withMdc { s.mdc with
        device := .run, modeTag := none,
        offHead := if s.mdc.autoDoze && !s.mdc.onHead then some (s.mdc.offHead.getD 0) else none }).withSmp
          (s.smp.replied {
          code := 0x22, tag := tag, status := .ok,
            data := [2, 1] ++ le16 (s.ftb.fs + 1) ++ le32 s.ftb.tbc, clears := false }))) ∧
    (∀ fix d, s.scn.mode = .scanning → s.scn.frame = some fix → s.scn.report = some d →
      exec .frameWrap s = .next (lit.offerFrame { fix := fix, draft := d, fill := s.aud.fill, replaced := 0 })) ∧
    (∀ fix d, s.scn.mode = .stopPending → s.mdc.device = .stopping → s.scn.frame = some fix → s.scn.report = some d →
      exec .frameWrap s = .next ((dark.offerFrame { fix := fix, draft := d, fill := s.aud.fill, replaced := 0 }).withScn
        { dark.scn with mode := .stopped } |>.withMdc { s.mdc with panel := .poweringDown, panelLeft := 5000 }))

/-- The marks at their receivers: EC2 starts the take schedule of a scanned frame, EC3 is a frame trigger at the
Supply Monitor, and EC4 wakes an IDLE lane outside DOZE (R11, R21, R41, R117). -/
def Obligations.MarksReachTheirReceivers : Prop :=
  ∀ s : State, s.mdc.inReset = false → s.ftb.wrapDue = false →
    (s.ftb.marked2 = false → s.ftb.fc = s.ftb.live.s → exec (.mark .ec2) s =
      .next (if s.scn.mode = .scanning ∨ s.scn.mode = .stopPending then
        (s.withFtb { s.ftb with marked2 := true }).withScn { s.scn with sched := Eyes.both (some 0) }
        else s.withFtb { s.ftb with marked2 := true })) ∧
    (s.ftb.marked3 = false → s.ftb.fc = s.ftb.live.monTick → exec (.mark .ec3) s =
      .next (match s.mon.round with
        | none => (s.withFtb { s.ftb with marked3 := true }).withMon { s.mon with
          round :=
            some { kind := .frame, input := 0, first := 0, last := 7, left := 50, done := [] } }
        | some r =>
          if r.kind = .frame ∨ s.mon.pendingFrame = true then
            (s.withFtb { s.ftb with marked3 := true }).count .roundsSkipped 1
          else (s.withFtb { s.ftb with marked3 := true }).withMon { s.mon with pendingFrame := true })) ∧
    (s.ftb.marked4 = false → s.ftb.fc = s.ftb.live.w → s.LaneFree → exec (.mark .ec4) s =
      .next (if s.plr.lane = .idle ∧ s.mdc.device ≠ .doze then
        (s.withFtb { s.ftb with marked4 := true }).withPlr { s.plr with lane := .waking, waitLeft := s.plr.tWait }
        else s.withFtb { s.ftb with marked4 := true }))

/-- The pulse of an eye for its centre, the width and the period, by the table of R12. The strobe and sync outputs
switch at the ends of their pulses, and nothing else changes (R12, R14, R15). -/
def Obligations.StrobeAndSyncPulses : Prop :=
  (∀ c w p : Nat, c < p →
    (w = 0 → pulseOf c w p = (none, false)) ∧
    (p ≤ w → pulseOf c w p = (some { start := 0, stop := p }, decide (p < w))) ∧
    (0 < w → w < p → w / 2 ≤ c → c - w / 2 + w ≤ p →
      pulseOf c w p = (some { start := c - w / 2, stop := c - w / 2 + w }, false)) ∧
    (0 < w → w < p → c < w / 2 → pulseOf c w p = (some { start := 0, stop := c + w - w / 2 }, false)) ∧
    (0 < w → w < p → w / 2 ≤ c → p < c - w / 2 + w →
      pulseOf c w p = (some { start := c - w / 2, stop := p }, true))) ∧
  (∀ s : State, s.mdc.inReset = false →
    (∀ e x, s.ftb.strobe.at e = false → s.ftb.cut = false → s.ftb.pulse.at e = some x → x.start ≤ s.ftb.fc →
      s.ftb.fc < x.stop →
      exec (.strobeOn e) s = .next (s.withFtb { s.ftb with strobe := s.ftb.strobe.put e true })) ∧
    (∀ e, s.ftb.strobe.at e = true →
      (s.ftb.cut = true ∨ ∀ x, s.ftb.pulse.at e = some x → s.ftb.fc < x.start ∨ x.stop ≤ s.ftb.fc) →
      exec (.strobeOff e) s = .next (s.withFtb { s.ftb with strobe := s.ftb.strobe.put e false })) ∧
    (s.ftb.syncActive = false → 0 < s.ftb.live.syncWidth → s.ftb.live.syncTick = s.ftb.fc → s.ftb.fc < s.ftb.live.p →
      exec .syncPulseStart s = .next (s.withFtb { s.ftb with syncActive := true })) ∧
    (s.ftb.syncActive = true →
      (s.ftb.fc < s.ftb.live.syncTick ∨ s.ftb.live.syncTick + s.ftb.live.syncWidth ≤ s.ftb.fc) →
      exec .syncPulseEnd s = .next (s.withFtb { s.ftb with syncActive := false })))

/-- The staging transaction of TIMING SET, SYNC, STROBE SET, SHIFT SET and HOLD SET: BAD_VALUE and CONFLICT leave the
staged set as it was, and otherwise the fields present are staged, brought into their ranges (R7, R8, R10, R37, R49,
R92). LANE SET is one transaction: a bad policy code and a W that conflicts write nothing; otherwise W is staged and
the other fields are written at once. LANE GET changes nothing but its reply (R140). -/
def Obligations.StagingCommandsStageOrRefuse : Prop :=
  (∀ (s : State) (tag : Byte),
    let stages (c : Instr) (bad clamped : Bool) (t : TimingSet) : Prop :=
      s.Runs c →
        (bad = true → exec c s = .next (s.answering c .badValue [])) ∧
        (bad = false → t.consistent = false → exec c s = .next (s.answering c .conflict [])) ∧
        (bad = false → t.consistent = true → exec c s =
          .next (((s.claiming c).withFtb { s.ftb with staged := t }).replying c
            (if clamped then .okClamped else .ok) []))
    let o := s.ftb.staged
    (∀ f, stages (.timingSet tag f) f.stray
      (f.p.any (fun v => v.toNat < 4000 || 20000 < v.toNat) || f.l.any (fun v => v.toNat < 100 || 1250 < v.toNat))
      { o with
        p := (f.p.map (fun v => max 4000 (min 20000 v.toNat))).getD o.p, s := (f.s.map BitVec.toNat).getD o.s,
        l := (f.l.map (fun v => max 100 (min 1250 v.toNat))).getD o.l,
        monTick := (f.monTick.map BitVec.toNat).getD o.monTick }) ∧
    (∀ f, stages (.sync tag f) (f.stray || f.polarity.any (fun v => v ≠ 0 && v ≠ 1))
      (f.width.any (fun v => 20000 < v.toNat))
      { o with
        syncPolarity := (f.polarity.map (fun v => if v = 0 then Polarity.activeHigh else .activeLow)).getD
          o.syncPolarity,
        syncTick := (f.tick.map BitVec.toNat).getD o.syncTick,
        syncWidth := (f.width.map (fun v => min 20000 v.toNat)).getD o.syncWidth }) ∧
    (∀ f, stages (.strobeSet tag f) f.stray
      (f.wReq.any (fun v => 20000 < v.toNat) || f.iPk.any (fun v => 1500 < v.toNat))
      { o with
        cL := (f.cL.map BitVec.toNat).getD o.cL, cR := (f.cR.map BitVec.toNat).getD o.cR,
        wReq := (f.wReq.map (fun v => min 20000 v.toNat)).getD o.wReq,
        iPk := (f.iPk.map (fun v => min 1500 v.toNat)).getD o.iPk }) ∧
    (∀ f, stages (.shiftSet tag f) (f.stray || f.enable.any (fun v => v ≠ 0 && v ≠ 1))
      (f.ppdX.any (fun v => 16383 < v.toNat) || f.ppdY.any (fun v => 16383 < v.toNat) ||
        f.maxX.any (fun v => 255 < v.toNat) || f.maxY.any (fun v => 120 < v.toNat) ||
        f.hMax.any (fun v => v.toNat < 1000 || 50000 < v.toNat))
      { o with
        shiftEnable := (f.enable.map (fun v => decide (v = 1))).getD o.shiftEnable,
        ppdX := (f.ppdX.map (fun v => min 16383 v.toNat)).getD o.ppdX,
        ppdY := (f.ppdY.map (fun v => min 16383 v.toNat)).getD o.ppdY,
        maxX := (f.maxX.map (fun v => min 255 v.toNat)).getD o.maxX,
        maxY := (f.maxY.map (fun v => min 120 v.toNat)).getD o.maxY,
        hMax := (f.hMax.map (fun v => max 1000 (min 50000 v.toNat))).getD o.hMax }) ∧
    (∀ hold, stages (.holdSet tag hold) false (decide (15 < hold.toNat)) { o with hold := min 15 hold.toNat })) ∧
  (∀ (s : State) (tag : Byte) (f : LaneFields),
    let c : Instr := .laneSet tag f
    let bad := f.stray || f.policy.any (fun v => v ≠ 0 && v ≠ 1)
    let staged := { s.ftb.staged with w := (f.w.map BitVec.toNat).getD s.ftb.staged.w }
    (s.Runs c → bad = true → exec c s = .next (s.answering c .badValue [])) ∧
    (s.Runs c → bad = false → staged.consistent = false → exec c s = .next (s.answering c .conflict [])) ∧
    (s.Runs c → bad = false → staged.consistent = true → exec c s =
      .next ((((s.claiming c).withPlr { s.plr with
        policy := (f.policy.map (fun v => decide (v = 1))).getD s.plr.policy,
        dReq := (f.dReq.map (fun v => min 2000 v.toNat)).getD s.plr.dReq,
        dMin := (f.dMin.map (fun v => max 200 (min 5000 v.toNat))).getD s.plr.dMin,
        tWait := (f.tWait.map (fun v => max 10 (min 500 v.toNat))).getD s.plr.tWait }).withFtb
          { s.ftb with staged := staged }).replying c
            (if f.dReq.any (fun v => 2000 < v.toNat) || f.dMin.any (fun v => v.toNat < 200 || 5000 < v.toNat) ||
              f.tWait.any (fun v => v.toNat < 10 || 500 < v.toNat) then .okClamped else .ok) [])) ∧
    (s.Runs (.laneGet tag) → exec (.laneGet tag) s = .next (s.answering (.laneGet tag) .ok
      ([s.plr.lane.code, if s.plr.policy then 1 else 0] ++ num16 s.plr.dReq ++ num16 s.plr.dMin ++
        num16 s.plr.tWait ++ num16 s.ftb.live.w ++ num16 s.ftb.staged.w ++
        [(if s.plr.lastEnd.isSome then 1 else 0) ||| (if s.plr.lastIdle.isSome then 2 else 0)] ++
        le32 (s.plr.lastEnd.getD 0) ++ le32 ((s.plr.lastIdle.map (·.1)).getD 0) ++
        le32 ((s.plr.lastIdle.map (·.2)).getD 0)))))

/-- A data-ready edge on armed EC5: with the slot empty its time is captured, and a Motion Unit that reads captures
starts a sample read on a free bus, while otherwise the capture is released unread; with the slot full the overrun
indicator is set (R17, R61, R66). -/
def Obligations.DataReadyEdgeIsCaptured : Prop :=
  ∀ (s : State) (rising : Bool), s.mdc.inReset = false → s.ftb.armed = true → s.ftb.edgeRising = rising →
    let stall := s.mot.stallLeft.map (fun _ => 4 * (1000000 / s.mot.rate))
    (s.ftb.slot ≠ none → exec (.dataReadyEdge rising) s = .next (s.withFtb { s.ftb with overrun := true })) ∧
    (s.ftb.slot = none → s.mot.readsCaptures = true → s.mot.bus = none → exec (.dataReadyEdge rising) s =
      .next ((s.withFtb { s.ftb with slot := some s.ftb.tbc, overrun := false }).withMot { s.mot with
        stallLeft := stall, firstLeft := none, reading := some { tbc := s.ftb.tbc, overrun := s.ftb.overrun },
        bus := some { kind := .sampleRead, left := 24, wanted := true, answers := false } })) ∧
    (s.ftb.slot = none → s.mot.readsCaptures = false ∨ s.mot.bus ≠ none → exec (.dataReadyEdge rising) s =
      .next ((s.withFtb { s.ftb with overrun := false }).withMot { s.mot with stallLeft := stall }))

/-- TIMING GET, STROBE GET, SHIFT GET and HOLD TABLE change nothing but their reply, which carries what their rules
name, in the layout of section 10.6 (R9, R38, R50, R93). SHIFT PROBE changes nothing but its reply, which carries the
computation without the enable gate (R94). The fixed values of STROBE GET are read from where the frame's are held; that
they are absent exactly in STOPPED and START_PENDING is ScanSound (StepKeepsModesAndLaneSound). What TIMING GET reports
as FC in the microsecond of a wrap not yet taken is the model's choice (log entry 6). -/
def Obligations.TimebaseTableAndShiftReads : Prop :=
  (∀ (s : State) (tag : Byte),
    let timing (t : TimingSet) : List Byte := num16 t.p ++ num16 t.s ++ num16 t.l ++ num16 t.monTick
    let strobe (t : TimingSet) : List Byte := num16 t.cL ++ num16 t.cR ++ num16 t.wReq ++ num16 t.iPk
    let shift (t : TimingSet) : List Byte := [if t.shiftEnable then 1 else 0] ++ num16 t.ppdX ++ num16 t.ppdY ++
      num16 t.maxX ++ num16 t.maxY ++ num16 t.hMax
    let record (r : Option ShiftRecord) : List Byte := match r with
      | none => List.replicate 21 0
      | some x =>
        [1 ||| (if x.found.isSome then 2 else 0) ||| (if x.horizon.isSome then 4 else 0)] ++ le32 x.takeTbc ++
          le16 x.ref ++ le32 x.target ++ le16 ((x.found.map (·.1)).getD 0) ++ num16 ((x.found.map (·.2)).getD 0) ++
          num16 (x.horizon.getD 0) ++ int16 x.shiftX ++ int8 x.shiftY ++ [x.flags.byte]
    let cell (i : Nat) (c : Option Slice) : List Byte := match c with
      | none => num8 i ++ List.replicate 18 0
      | some x =>
        num8 i ++ [x.phase.code, (if x.arrival.isSome then 1 else 0) ||| (if x.scanEnd.isSome then 2 else 0)] ++
          [if x.eye = .left then 0 else 1] ++ num8 x.index ++ le16 x.tag ++ le16 x.ref ++ num8 x.hold ++
          [if x.pinned then 1 else 0] ++ le32 (x.arrival.getD 0) ++ le32 (x.scanEnd.getD 0)
    (s.Runs (.timingGet tag) → exec (.timingGet tag) s = .next (s.answering (.timingGet tag) .ok
      (le32 s.ftb.tbc ++ num16 s.ftb.fc ++ le16 s.ftb.fs ++ le32 s.ftb.frameStart ++ timing s.ftb.live ++
        timing s.ftb.staged))) ∧
    (s.Runs (.strobeGet tag) → exec (.strobeGet tag) s = .next (s.answering (.strobeGet tag) .ok
      (strobe s.ftb.live ++ strobe s.ftb.staged ++ [s.scn.mode.code] ++ (match s.scn.frame with
        | none => List.replicate 16 0
        | some f => [1] ++ le16 f.fs ++ num16 f.wEff ++ le32 f.tpL ++ le32 f.tpR ++
            [f.gov.code ||| (if f.clipped then 4 else 0)] ++ num16 f.wLimit)))) ∧
    (s.Runs (.shiftGet tag) → exec (.shiftGet tag) s = .next (s.answering (.shiftGet tag) .ok
      (shift s.ftb.live ++ shift s.ftb.staged ++ record s.mot.lastShift.l ++ record s.mot.lastShift.r))) ∧
    (s.Runs (.holdTable tag) → exec (.holdTable tag) s = .next (s.answering (.holdTable tag) .ok
      (le32 s.ftb.tbc ++ s.slm.cells.zipIdx.flatMap (fun ci => cell ci.2 ci.1))))) ∧
  (∀ (s : State) (tag : Byte) (ref : W16) (target : W32), s.Runs (.shiftProbe tag ref target) →
    let r := s.mot.shift s.ftb.live ref target
    exec (.shiftProbe tag ref target) s = .next (s.answering (.shiftProbe tag ref target) .ok
      ([if s.ftb.live.shiftEnable then 1 else 0,
        (if r.found.isSome then 1 else 0) ||| (if r.horizon.isSome then 2 else 0) |||
          (if r.detail.isSome then 4 else 0)] ++
        num8 s.mot.ring.length ++ le16 ((r.found.map (·.1)).getD 0) ++ num16 ((r.found.map (·.2)).getD 0) ++
        num16 (r.horizon.getD 0) ++ int32 ((r.detail.map (·.1)).getD 0) ++ int32 ((r.detail.map (·.2.1)).getD 0) ++
        int32 ((r.detail.map (·.2.2.1)).getD 0) ++ int32 ((r.detail.map (·.2.2.2)).getD 0) ++ int16 r.shiftX ++
        int8 r.shiftY ++ [r.flags.byte])))

/-! ## Picture lane -/

/-- The line signal and training: DOWN to TRAINING, a lock to ACTIVE (under the doze hold to IDLE), 2 ms without a
lock to a new training, and a loss to DOWN with the burst abandoned (R19, R20, R137, R142). Idle and wake: activity on
an IDLE lane counts a lost burst and wakes it, T_wait ends in ACTIVE, and the idle entry names the resume TBC in its
notice (R21, R137 to R139). -/
def Obligations.TheLaneFollowsItsSignalAndItsIdleRules : Prop :=
  (∀ s : State, s.mdc.inReset = false → s.LaneFree →
    (s.plr.lane = .down → exec .signalDetected s =
      .next (s.withPlr { s.plr with signal := true, lane := .training, trainLeft := 2000 })) ∧
    (s.plr.lane ≠ .down → exec .signalDetected s = .next (s.withPlr { s.plr with signal := true })) ∧
    (s.plr.lane = .training → s.plr.hold = false ∨ s.plr.burst ≠ .none → exec .trainingLock s =
      .next (s.withPlr { s.plr with lane := .active, trainLeft := 0, waitLeft := 0, lastEnd := some s.ftb.tbc })) ∧
    (s.plr.lane = .training → s.plr.hold = true → s.plr.burst = .none → exec .trainingLock s =
      .next (s.withPlr { s.plr with lane := .idle, trainLeft := 0, waitLeft := 0, lastEnd := some s.ftb.tbc })) ∧
    (s.plr.lane = .training → s.plr.trainLeft = 0 → exec .trainingTimeout s =
      .next (s.withPlr { s.plr with trainLeft := 2000 })) ∧
    (∀ i, s.plr.burst = .slice i → exec .signalLoss s =
      .next ((s.withSlm { s.slm with cells := s.slm.cells.set i none }).withPlr
        { s.plr with signal := false, lane := .down, burst := .none, trainLeft := 0, waitLeft := 0 })) ∧
    (s.plr.burst.isSlice = false → exec .signalLoss s = .next (s.withPlr
        { s.plr with signal := false, lane := .down, burst := .none, trainLeft := 0, waitLeft := 0 }))) ∧
  (∀ s : State, s.mdc.inReset = false → s.LaneFree →
    (s.plr.lane = .idle → exec .activityInIdle s = .next ((s.note .lostToIdle).withPlr
      { s.plr with lane := .waking, waitLeft := s.plr.tWait, burst := .lost })) ∧
    (s.plr.lane = .waking → s.plr.waitLeft = 0 → s.plr.hold = false ∨ s.plr.burst ≠ .none → exec .wakingEnd s =
      .next (s.withPlr { s.plr with lane := .active, trainLeft := 0, lastEnd := some s.ftb.tbc })) ∧
    (s.plr.lane = .waking → s.plr.waitLeft = 0 → s.plr.hold = true → s.plr.burst = .none → exec .wakingEnd s =
      .next (s.withPlr { s.plr with lane := .idle, trainLeft := 0, lastEnd := some s.ftb.tbc })) ∧
    (∀ t, s.mdc.device = .run → s.plr.policy = true → s.plr.lane = .active → s.plr.burst = .none →
      s.slm.fills = false → s.plr.lastEnd = some t → (s.plr.dReq : Int) ≤ (s.ftb.tbc - t).toInt →
      s.ftb.wrapDue = false → s.ftb.fc < s.ftb.live.p →
      let wait := (s.ftb.live.w + (s.ftb.live.p - s.ftb.fc)) % s.ftb.live.p
      s.plr.dMin ≤ wait →
      let resume := s.ftb.tbc + BitVec.ofNat 32 (wait + s.plr.tWait)
      exec .idleEntry s = .next ((s.withPlr { s.plr with lane := .idle, lastIdle := some (s.ftb.tbc, resume) }).notify
        (.laneIdle resume s.ftb.tbc))))

/-- A burst's start on an ACTIVE lane: a good AUDIO header opens the receive buffer, a good SLICE header is given a
cell or is counted as no cell, and any other header is counted malformed by R22's conditions on its kind, length, eye,
index, count and payload length; on a WAKING lane the burst is lost and counted, on a TRAINING lane it is in progress
unparsed, and on the others its start has no effect (R21, R22, R24, R27, R137, and log entry 27). A burst's end on an
ACTIVE lane: a slice that passes its check, the CRC-32 read low byte first, is READY with its arrival TBC and
supersedes an older READY one of its eye and index, a slice that fails frees its cell and is counted, and an audio
block is delivered by the playout state and the room in the queue, or discarded and counted (R23, R24, R29, R30, R97,
R137, R165). Under the doze hold the end takes the lane to IDLE and finishes the strand of the lane (R142); on a
TRAINING, WAKING or IDLE lane it only ends the burst (log entry 27). -/
def Obligations.BurstsAreCheckedAndDelivered : Prop :=
  (∀ s : State, s.mdc.inReset = false →
    (s.plr.lane = .active → s.plr.burst = .none →
      (∀ (tag : W16) (n : Nat), 1 ≤ n → n ≤ 1024 →
        exec (.burstStart ([2] ++ le16 tag ++ num16 n ++ num32 (4 * n))) s =
          .next (s.withPlr { s.plr with burst := .audio tag n })) ∧
      (∀ (e : Eye) (k : Nat) (tag ref : W16), k < 16 →
        exec (.burstStart ([1, if e = .left then 0 else 1] ++ num8 k ++ le16 tag ++ le16 ref ++ num32 691200)) s =
          .next (match s.slm.allocate e k tag ref with
            | some (i, m) => (s.withSlm m).withPlr { s.plr with burst := .slice i }
            | none => (s.note .noCell).withPlr { s.plr with burst := .skipped })) ∧
      (∀ header : List Byte,
        let byte (i : Nat) : Nat := (header.getD i 0).toNat
        let length (i : Nat) : Nat :=
          byte i + 256 * byte (i + 1) + 65536 * byte (i + 2) + 16777216 * byte (i + 3)
        header = [] ∨ (byte 0 ≠ 1 ∧ byte 0 ≠ 2) ∨
          (byte 0 = 1 ∧ (header.length < 11 ∨ 1 < byte 1 ∨ 15 < byte 2 ∨ length 7 ≠ 691200)) ∨
          (byte 0 = 2 ∧ (header.length < 9 ∨ byte 3 + 256 * byte 4 = 0 ∨ 1024 < byte 3 + 256 * byte 4 ∨
            length 5 ≠ 4 * (byte 3 + 256 * byte 4))) →
        exec (.burstStart header) s = .next ((s.note .malformed).withPlr { s.plr with burst := .skipped }))) ∧
    (s.plr.lane = .waking → ∀ header,
      exec (.burstStart header) s = .next ((s.note .lostToIdle).withPlr { s.plr with burst := .lost })) ∧
    (s.plr.lane = .training → ∀ header,
      exec (.burstStart header) s = .next (s.withPlr { s.plr with burst := .lost })) ∧
    (s.plr.lane = .down ∨ s.plr.lane = .idle → ∀ header, exec (.burstStart header) s = .next s)) ∧
  (∀ (s : State) (payload crc : List Byte), s.mdc.inReset = false → s.plr.lane = .active →
    s.plr.hold = false → s.LaneFree →
    let p : Plr := { s.plr with burst := .none, lastEnd := some s.ftb.tbc }
    (∀ i x, s.plr.burst = .slice i → s.slm.slice i = some x → payload.length = 691200 →
      crc = le32 (crc32 payload) → s.slm.readyCell x.eye x.index = none →
      exec (.burstEnd payload crc) s = .next ((s.withSlm { s.slm with
      cells := s.slm.cells.set i
        (some { x with phase := .ready, arrival := some s.ftb.tbc, content := payload }) }).withPlr p)) ∧
    (∀ i j x y, s.plr.burst = .slice i → s.slm.slice i = some x → payload.length = 691200 →
      crc = le32 (crc32 payload) → s.slm.readyCell x.eye x.index = some j → s.slm.slice j = some y →
      exec (.burstEnd payload crc) s = .next (((s.withSlm { s.slm with
      cells :=
        (s.slm.cells.set j (if y.pinned then some { y with phase := .draining } else none)).set i
          (some { x with phase := .ready, arrival := some s.ftb.tbc, content := payload }) }).note
            .superseded).withPlr p)) ∧
    (∀ i, s.plr.burst = .slice i → payload.length ≠ 691200 ∨ crc ≠ le32 (crc32 payload) →
      exec (.burstEnd payload crc) s =
        .next (((s.withSlm { s.slm with cells := s.slm.cells.set i none }).note .sliceCrc).withPlr p)) ∧
    (∀ tag n, s.plr.burst = .audio tag n → payload.length ≠ 4 * n ∨ crc ≠ le32 (crc32 payload) →
      exec (.burstEnd payload crc) s = .next ((s.count .audioCrc 1).withPlr p)) ∧
    (∀ tag n, s.plr.burst = .audio tag n → payload.length = 4 * n → crc = le32 (crc32 payload) →
      (s.aud.playout = .stopped → exec (.burstEnd payload crc) s = .next ((s.count .audioStopped 1).withPlr p)) ∧
      (s.aud.playout ≠ .stopped → 16 ≤ s.aud.queue.length ∨ 4096 < n + s.aud.fill →
        exec (.burstEnd payload crc) s = .next ((s.count .audioOverflow 1).withPlr p)) ∧
      (s.aud.playout ≠ .stopped → s.aud.queue.length < 16 → n + s.aud.fill ≤ 4096 →
        exec (.burstEnd payload crc) s = .next ((s.withAud { s.aud with
        queue := s.aud.queue ++
          [{ tag := tag, samples := stereoFrames payload, consumed := 0 }] }).withPlr p))) ∧
    (s.plr.burst = .none ∨ s.plr.burst = .lost ∨ s.plr.burst = .skipped →
      exec (.burstEnd payload crc) s = .next (s.withPlr p))) ∧
  (∀ (s : State) (payload crc : List Byte), s.mdc.inReset = false →
    (s.plr.lane = .active → s.plr.hold = true → s.mdc.device = .dozeEntry → s.mdc.doneLane = false →
      s.mdc.donePanels = false ∨ s.mdc.doneMotion = false → s.plr.burst = .lost ∨ s.plr.burst = .skipped →
      exec (.burstEnd payload crc) s =
        .next ((s.withPlr { s.plr with burst := .none, lastEnd := some s.ftb.tbc, lane := .idle }).withMdc
          { s.mdc with doneLane := true })) ∧
    (s.plr.lane = .training ∨ s.plr.lane = .waking ∨ s.plr.lane = .idle →
      exec (.burstEnd payload crc) s = .next (s.withPlr { s.plr with burst := .none })) ∧
    (s.plr.lane = .down → exec (.burstEnd payload crc) s = .next s))

/-- An allocation takes the lowest-numbered FREE cell, and with none FREE the oldest RETAINED cell that is not pinned;
it fills that cell and leaves every other as it was, and refuses only where there is neither (R27, R28). -/
def Obligations.AllocationTakesAFreeOrTheOldestCell : Prop :=
  ∀ (m : Slm) (e : Eye) (k : Nat) (tag ref : W16),
    (∀ i m', m.allocate e k tag ref = some (i, m') →
      i < m.cells.length ∧
        ((m.slice i = none ∧ ∀ j < i, m.slice j ≠ none) ∨
          ((∀ j < m.cells.length, m.slice j ≠ none) ∧ ∃ x, m.slice i = some x ∧ x.phase = .retained ∧
            x.pinned = false ∧
            ∀ j y, m.slice j = some y → y.phase = .retained → y.pinned = false →
              y.age ≤ x.age ∧ (y.age = x.age → i ≤ j))) ∧
        m'.slice i = some {
        phase := .filling, eye := e, index := k, tag := tag, ref := ref, arrival := none,
          scanEnd := none, hold := 0, pinned := false, age := 0, content := [] } ∧
        (∀ j, j ≠ i → m'.slice j = m.slice j)) ∧
    (m.allocate e k tag ref = none →
      ∀ j < m.cells.length, ∃ y, m.slice j = some y ∧ ¬ (y.phase = .retained ∧ y.pinned = false))

/-! ## Takes -/

/-- The outcome of a take by the table of R31: a READY cell is FRESH; with none READY the newest RETAINED cell is HELD
while its hold count is below the limit; any other take is BLANK. -/
def Obligations.TakesFollowTheirTable : Prop :=
  ∀ (m : Slm) (e : Eye) (k hold : Nat),
    let ready (j : Nat) : Prop := ∃ y, m.slice j = some y ∧ y.phase = .ready ∧ y.eye = e ∧ y.index = k
    let retained (j : Nat) (y : Slice) : Prop := m.slice j = some y ∧ y.phase = .retained ∧ y.eye = e ∧ y.index = k
    let newest (i : Nat) (x : Slice) : Prop :=
      retained i x ∧ ∀ j y, retained j y → x.age ≤ y.age ∧ (y.age = x.age → j ≤ i)
    ((∃ j, ready j) → ∃ i, ready i ∧ m.resolve e k hold = (.fresh, some i)) ∧
    (∀ i x, (∀ j, ¬ ready j) → newest i x → x.hold < hold → m.resolve e k hold = (.held, some i)) ∧
    (∀ i x, (∀ j, ¬ ready j) → newest i x → hold ≤ x.hold → m.resolve e k hold = (.blank, none)) ∧
    ((∀ j, ¬ ready j) → (∀ j y, ¬ retained j y) → m.resolve e k hold = (.blank, none))

/-- A take at its tick ends the window before it, is resolved by R31, enters its outcome in the report, writes its
window's band to the eye's panel, and moves the schedule on. A BLANK take's entry carries no tag, no shift and no flag;
a FRESH or HELD take makes its cell SCANNING, asks one late shift, records it, and with a vertical shift pins the
neighbours of its frame tag (R31, R33, R34, R35, R41, R42, R51, R91). Nothing else changes. The end request at tick
S + 16·L: both eyes' last windows end, so that no cell is SCANNING or pinned, the schedule is over, and nothing else
changes (R35, R36, R41). A panel's pixel by the band of its line: the source pixel of the taken cell or of the
neighbour it falls in, and black where there is none (R43 to R45); that a line never written has no pixel is the
model's choice (log entry 15). -/
def Obligations.TakesAndTheEndRequest : Prop :=
  (∀ (s : State) (e : Eye) (k : Fin 16) (d : Draft), s.mdc.inReset = false → s.takeIsDue e k.val = true →
    s.scn.report = some d →
    let closed (x : Slice) : Option Slice :=
      if x.eye ≠ e then some x
      else if x.phase = .scanning then
        some { x with phase := .retained, scanEnd := some s.ftb.tbc, age := 0, pinned := false }
      else if x.pinned = true ∧ x.phase = .draining then none
      else some { x with pinned := false }
    let m : Slm := if k.val = 0 then { s.slm with up := s.slm.up.put e none } else
      { cells := s.slm.cells.map (fun c => c.bind closed),
        up := s.slm.up.put e
          (s.slm.cells.findIdx? (fun c => c.any (fun x => x.phase = .scanning && x.eye = e))) }
    let r := m.resolve e k.val s.ftb.live.hold
    let scanned (x : SliceEntry) (b : Band) : Scn :=
      { s.scn with
        report := some { d with entries := d.entries.put e (d.entries.at e ++ [x]) },
        sched := s.scn.sched.put e (some (k.val + 1)),
        panel := s.scn.panel.put e ((s.scn.panel.at e).set k.val (some b)) }
    (r.1 = .blank → exec (.take e k) s = .next ((s.withSlm m).withScn (scanned
      { eye := e, index := k.val, outcome := .blank, tag := none, shiftX := 0, shiftY := 0,
        flags := ShiftFlags.clear }
      { index := k.val, taken := none, above := none, below := none, shiftX := 0, shiftY := 0 }))) ∧
    (∀ i y, r.2 = some i → m.slice i = some y →
      let tp := s.scn.photonCentre e
      let q := s.mot.answerShift s.ftb.live y.ref tp
      let n : Slm := { m with
        cells := m.cells.set i (some
          { y with phase := .scanning, hold := if r.1 = .held then y.hold + 1 else y.hold }) }
      let up : Option Nat := if q.shiftY = 0 ∨ k.val = 0 then none else (n.up.at e).filter
        (fun j => (n.slice j).any (fun x => x.phase = .retained && x.tag = y.tag))
      let down : Option Nat := if q.shiftY = 0 ∨ k.val = 15 then none else (n.cells.findIdx?
        (fun c => c.any (fun x => x.phase = .ready && x.eye = e && x.index = k.val + 1))).filter
        (fun j => (n.slice j).any (fun x => x.tag = y.tag))
      let pinned (m : Slm) (j : Option Nat) : Slm := match j with
        | none => m
        | some j => { m with cells := m.cells.set j ((m.slice j).map (fun x => { x with pinned := true })) }
      let content (j : Option Nat) : Option (List Byte) := (j.bind n.slice).map (fun x => x.content)
      exec (.take e k) s = .next (((s.withSlm (pinned (pinned n up) down)).withMot { s.mot with
        lastShift := s.mot.lastShift.put e (some
          { takeTbc := s.ftb.frameStart + BitVec.ofNat 32 (s.ftb.live.s + k.val * s.ftb.live.l), ref := y.ref,
            target := tp, found := q.found, horizon := q.horizon, shiftX := q.shiftX, shiftY := q.shiftY,
            flags := q.flags }) }).withScn (scanned
        { eye := e, index := k.val, outcome := r.1, tag := some y.tag, shiftX := q.shiftX, shiftY := q.shiftY,
          flags := q.flags }
        { index := k.val, taken := some y.content, above := content up, below := content down, shiftX := q.shiftX,
          shiftY := q.shiftY })))) ∧
  (∀ s : State, s.mdc.inReset = false → s.endRequestIsDue = true →
    ∃ t, exec .endRequest s = .next t ∧ t.scn = { s.scn with sched := { l := none, r := none } } ∧
      (∀ c ∈ t.slm.cells, ∀ x ∈ c.toList, x.phase ≠ .scanning ∧ x.pinned = false) ∧
      (∀ i x, s.slm.slice i = some x → x.phase = .scanning → t.slm.slice i =
        some { x with phase := .retained, scanEnd := some s.ftb.tbc, age := 0, pinned := false }) ∧
      (∀ i x, s.slm.slice i = some x → x.phase ≠ .scanning → x.pinned = false → t.slm.slice i = some x) ∧
      (∀ i x, s.slm.slice i = some x → x.phase ≠ .scanning → x.pinned = true → t.slm.slice i =
        if x.phase = .draining then none else some { x with pinned := false }) ∧
      (∀ i, s.slm.slice i = none → t.slm.slice i = none) ∧
      t.slm.cells.length = s.slm.cells.length ∧ t.ftb = s.ftb ∧ t.plr = s.plr ∧ t.mot = s.mot ∧ t.aud = s.aud ∧
      t.mon = s.mon ∧ t.gov = s.gov ∧ t.mdc = s.mdc ∧ t.smp = s.smp ∧ t.pending = s.pending) ∧
  (∀ (n : Scn) (e : Eye) (x y : Nat),
    ((n.panel.at e)[y / 120]? = some none → n.panelPixel e x y = none) ∧
    (∀ b : Band, (n.panel.at e)[y / 120]? = some (some b) → x < 1920 → y < 1920 → b.index = y / 120 →
      b.shiftY.natAbs ≤ 120 →
      let black : Pixel := { red := 0, green := 0, blue := 0 }
      let sx : Int := x - b.shiftX
      let sy : Int := y - b.shiftY
      let source (content : Option (List Byte)) : Pixel := match content with
        | none => black
        | some bytes =>
          let i := ((1920 * (sy % 120) + sx) * 3).toNat
          { red := bytes.getD i 0, green := bytes.getD (i + 1) 0, blue := bytes.getD (i + 2) 0 }
      n.panelPixel e x y = some
        (if b.taken = none ∨ sx < 0 ∨ 1919 < sx ∨ sy < 0 ∨ 1919 < sy then black
        else if sy / 120 = b.index then source b.taken
        else if sy / 120 < b.index then source b.above
        else source b.below)))

/-! ## Late shift -/

/-- The gates and the bounds of a late shift: disabled it is (0, 0) with every flag clear; outside RUNNING and STALLED
it is (0, 0) with the no-motion flag alone; a reference outside the ring is stale; and every shift lies within the
live limits, with a clipped flag only at its limit (R80 to R82, R87). With the reference found, the horizon, the
extrapolations, the deltas, the pixels and the flags of R83 to R87, in exact integers rounded to the nearest with ties
away from zero. -/
def Obligations.LateShiftsPassTheirGatesAndStayBounded : Prop :=
  (∀ (m : Mot) (t : TimingSet) (ref : W16) (target : W32),
    let r := m.answerShift t ref target
    (t.shiftEnable = false → r.shiftX = 0 ∧ r.shiftY = 0 ∧ r.flags = ShiftFlags.clear) ∧
    (t.shiftEnable = true → m.state ≠ .running → m.state ≠ .stalled →
      r.shiftX = 0 ∧ r.shiftY = 0 ∧ r.flags = { ShiftFlags.clear with noMotion := true }) ∧
    (t.shiftEnable = true → m.state = .running ∨ m.state = .stalled →
      (r.flags.stale = true ↔ (m.ring = [] ∨
        ∃ n, m.ring.getLast? = some n ∧ m.ring.length ≤ (n.seq - ref).toNat))) ∧
    (r.flags.stale = true → r.shiftX = 0 ∧ r.shiftY = 0 ∧ r.flags = { ShiftFlags.clear with stale := true }) ∧
    r.shiftX.natAbs ≤ t.maxX ∧ r.shiftY.natAbs ≤ t.maxY ∧
    (r.flags.xClipped = true → r.shiftX.natAbs = t.maxX) ∧ (r.flags.yClipped = true → r.shiftY.natAbs = t.maxY)) ∧
  (∀ (m : Mot) (t : TimingSet) (ref : W16) (target : W32) (n x : RingEntry), t.shiftEnable = true →
    m.state = .running ∨ m.state = .stalled → m.ring.getLast? = some n → (n.seq - ref).toNat < m.ring.length →
    m.ring[m.ring.length - 1 - (n.seq - ref).toNat]? = some x →
    let h : Int := (target - n.tbc).toInt
    let used : Int := max 0 (min (t.hMax : Int) h)
    let q (rate : W16) : Int := nearest (rate.toInt * used * 4096) 1000000
    let d (a b : W32) (q : Int) : Int := (a + BitVec.ofInt 32 q - b).toInt
    let dYaw := d n.acc.yaw x.acc.yaw (q n.rate.y)
    let dPitch := d n.acc.pitch x.acc.pitch (q n.rate.x)
    let px := nearest (dYaw * (t.ppdX : Int)) 16777216
    let py := nearest (dPitch * (t.ppdY : Int)) 16777216
    m.answerShift t ref target =
      { found := some (n.seq, (n.seq - ref).toNat), horizon := some used.toNat,
        detail := some (q n.rate.y, q n.rate.x, dYaw, dPitch),
        shiftX := max (-(t.maxX : Int)) (min (t.maxX : Int) px),
        shiftY := max (-(t.maxY : Int)) (min (t.maxY : Int) py),
        flags :=
          { stale := false, horizonClamped := decide ((t.hMax : Int) < h), horizonPast := decide (h < 0),
            xClipped := decide (t.maxX < px.natAbs), yClipped := decide (t.maxY < py.natAbs),
            noMotion := false } }) ∧
  (∀ (n : Int) (d : Nat), 0 < d →
    2 * (nearest n d * (d : Int) - n).natAbs ≤ d ∧
      (2 * (nearest n d * (d : Int) - n).natAbs = d → n.natAbs < (nearest n d).natAbs * d))

/-- A late shift between two ring entries is the same on either side of a recentre (R73). -/
def Obligations.RecentringLeavesEveryShiftAlone : Prop :=
  ∀ (m : Mot) (offsets : Angles W32) (t : TimingSet) (ref : W16) (target : W32),
    (m.recentre offsets).shift t ref target = m.shift t ref target

/-! ## Motion Unit -/

/-- MOTION START in the order of its checks, and what an accepted one begins: the settings are recorded, EC5 is armed
on the edge named, and the identity read is wanted on the bus (R16, R57, R58, R61). -/
def Obligations.MotionStartIsCheckedAndBegun : Prop :=
  ∀ (s : State) (tag : Byte) (f : MotionStartFields),
    let c : Instr := .motionStart tag f
    let dozing := s.mdc.device = .dozeEntry ∨ s.mdc.device = .doze ∨ s.mdc.device = .waking
    let bad := f.stray = true ∨ (f.rate ≠ 500 ∧ f.rate ≠ 1000 ∧ f.rate ≠ 2000) ∨ ∃ v, f.edge = some v ∧ v ≠ 0 ∧ v ≠ 1
    let read : Tx := { kind := .identityRead, left := 20, wanted := true, answers := false }
    s.Runs c →
      (dozing → exec c s = .next (s.answering c .wrongState [])) ∧
      (¬ dozing → s.mot.state ≠ .off → exec c s = .next (s.answering c .busy [])) ∧
      (¬ dozing → s.mot.state = .off → bad → exec c s = .next (s.answering c .badValue [])) ∧
      (¬ dozing → s.mot.state = .off → ¬ bad → exec c s = .next (((s.claiming c).withMot
        { s.mot with
          state := .starting, rate := f.rate.toNat, batch := max 1 (min 8 f.batch.toNat),
          expected := some f.identity, starting := some (tag, decide (f.batch.toNat < 1 ∨ 8 < f.batch.toNat)),
          configured := false, bus := some (s.mot.bus.getD read),
          waiting := if s.mot.bus.isSome then s.mot.waiting ++ [read] else s.mot.waiting }).withFtb
            { s.ftb with armed := true, edgeRising := decide (f.edge ≠ some 1) }))

/-- The transactions of STARTING: the identity read leads to the configuration write or to FAULT IDENTITY, the write
configures the sensor at the rate it was wanted with and starts the 50 ms first-sample timer, and its expiry gives
FAULT NO_DATA_READY; a fault disarms EC5 and powers the sensor down, and a transaction of a state that was left
changes the sensor alone (R58, R61). -/
def Obligations.StartingRunsItsTransactions : Prop :=
  ∀ (s : State) (b : Tx), s.mdc.inReset = false → s.mot.waiting = [] →
    let down : Tx := { kind := .powerDown, left := 20, wanted := true, answers := false }
    let failed (tag v reason : Byte) : State :=
      ((s.withMot
        { s.mot with
          state := .off, lastIdentity := some v, starting := none, configured := false, firstLeft := none,
          stallLeft := none, bus := some down }).withFtb
        { s.ftb with armed := false, slot := none, overrun := false }).withSmp (s.smp.replied
          { code := 0x30, tag := tag, status := .fault, data := [reason, v], clears := false })
    (∀ v, s.mot.bus = some b → b.kind = .identityRead → b.left = 0 → b.wanted = true → s.mot.expected = some v →
      exec (.identityReadComplete v) s = .next (s.withMot
        { s.mot with
          lastIdentity := some v,
          bus := some
            { kind := .configWrite, left := 100, wanted := true, answers := false, rate := s.mot.rate } })) ∧
    (∀ v tag clamped, s.mot.bus = some b → b.kind = .identityRead → b.left = 0 → b.wanted = true →
      s.mot.expected ≠ some v → s.mot.starting = some (tag, clamped) →
      exec (.identityReadComplete v) s = .next (failed tag v 0)) ∧
    (∀ v, s.mot.bus = some b → b.kind = .identityRead → b.left = 0 → b.wanted = false →
      exec (.identityReadComplete v) s = .next (s.withMot { s.mot with lastIdentity := some v, bus := none })) ∧
    (s.mot.bus = some b → b.kind = .configWrite → b.left = 0 → b.wanted = true →
      exec .configWriteComplete s = .next (s.withMot
        { s.mot with
          bus := none, sensor := .configured b.rate, configured := true, firstLeft := some 50000 })) ∧
    (s.mot.bus = some b → b.kind = .configWrite → b.left = 0 → b.wanted = false →
      exec .configWriteComplete s = .next (s.withMot
        { s.mot with bus := none, sensor := .configured b.rate })) ∧
    (∀ v tag clamped, s.mot.bus = none → s.mot.state = .starting → s.mot.firstLeft = some 0 →
      s.mot.starting = some (tag, clamped) → s.mot.lastIdentity = some v →
      exec .firstSampleTimeout s = .next (failed tag v 1))

/-- A sample read that completes, by the motion state. The bus goes to the transaction that waits longest, the slot is
released, the rates are biased and their saturations counted (R61, R62). In RUNNING, STALLED and STARTING: the
interval, the integration of the three axes, the ring, the report under assembly, which is offered with the
accumulators once it holds B samples, and the calibration in flight (R63 to R65, R67, R72; report before calibration
reply is the model's choice, log entry 33); STALLED resumes with its notice (R66), and the first sample of a start is
followed by RUNNING and the reply with the identity, the sequence and the capture TBC (R58). In DOZE_WATCH nothing is
integrated; while the device is in DOZE the wake filters count, and those that match begin the wake together (R74,
R76). What none of these names is unchanged. A later sample of a report is DELTA by the differences of R68. -/
def Obligations.ASampleIsBiasedTimedAndIntegrated : Prop :=
  (∀ (s : State) (raw : RawSample) (b : Tx) (c : Capture), s.mdc.inReset = false → s.mot.bus = some b →
    b.kind = .sampleRead → b.left = 0 → s.mot.reading = some c →
    let sat (v bias : Int) : Int := max (-32768) (min 32767 (v - bias))
    let gx := sat raw.gx.toInt s.mot.bias.x
    let gy := sat raw.gy.toInt s.mot.bias.y
    let gz := sat raw.gz.toInt s.mot.bias.z
    let rates : Axes W16 := { x := BitVec.ofInt 16 gx, y := BitVec.ofInt 16 gy, z := BitVec.ofInt 16 gz }
    let accel : Axes W16 := { x := raw.ax, y := raw.ay, z := raw.az }
    let saturated : Nat := (if gx = raw.gx.toInt - s.mot.bias.x then 0 else 1) +
      (if gy = raw.gy.toInt - s.mot.bias.y then 0 else 1) + (if gz = raw.gz.toInt - s.mot.bias.z then 0 else 1)
    let counted : State := ((s.withMot
      { s.mot with bus := s.mot.waiting.head?, waiting := s.mot.waiting.tail, reading := none }).withFtb
        { s.ftb with slot := none }).withSmp { s.smp with counters := { s.smp.counters with
          saturation := min 65535 (s.smp.counters.saturation + saturated) } }
    let span : Int := match s.mot.prevTbc with
      | none => ((1000000 / s.mot.rate : Nat) : Int)
      | some t => (c.tbc - t).toInt
    let dt : Int := match s.mot.prevTbc with
      | none => span
      | some _ => max 100 (min 4000 span)
    let p (g : Int) (r : Nat) : Int := g * dt * 4096 + (r : Int)
    let acc : Angles W32 :=
      { yaw := s.mot.acc.yaw + BitVec.ofInt 32 (p gy s.mot.residue.yaw / 1000000),
        pitch := s.mot.acc.pitch + BitVec.ofInt 32 (p gx s.mot.residue.pitch / 1000000),
        roll := s.mot.acc.roll + BitVec.ofInt 32 (p gz s.mot.residue.roll / 1000000) }
    let seq : W16 := s.mot.seq + 1
    let sample : ReportSample :=
      { tbc := c.tbc, gyro := rates, accel := accel, clipped := decide (0 < saturated), overrun := c.overrun,
        intervalClamped := decide (dt ≠ span) }
    let first : W16 := match s.mot.draft with
      | none => seq
      | some d => d.first
    let samples : List ReportSample := match s.mot.draft with
      | none => [sample]
      | some d => d.samples ++ [sample]
    let integrated (draft : Option MotionDraft) : State := counted.withMot { counted.mot with
      acc := acc,
      residue :=
        { yaw := (p gy s.mot.residue.yaw % 1000000).toNat, pitch := (p gx s.mot.residue.pitch % 1000000).toNat,
          roll := (p gz s.mot.residue.roll % 1000000).toNat },
      prevTbc := some c.tbc, seq := seq, integrated := true, lastAccel := some accel,
      ring := (if 128 ≤ s.mot.ring.length then s.mot.ring.drop 1 else s.mot.ring) ++
        [{ seq := seq, tbc := c.tbc, acc := acc, rate := rates }],
      draft := draft }
    let batched : State :=
      if samples.length < s.mot.batch then integrated (some { first := first, samples := samples })
      else (integrated none).offerMotion { first := first, samples := samples, acc := acc, dropped := 0 }
    let done : State := batched.calibrateSample raw
    let running : Mot :=
      { done.mot with state := .running, stallLeft := some (4 * (1000000 / s.mot.rate)) }
    (s.mot.state = .running → exec (.sampleReadComplete raw) s = .next done) ∧
    (s.mot.state = .stalled →
      exec (.sampleReadComplete raw) s = .next ((done.withMot running).notify (.motion true c.tbc seq))) ∧
    (∀ tag clamped v, s.mot.state = .starting → s.mot.starting = some (tag, clamped) →
      s.mot.lastIdentity = some v → exec (.sampleReadComplete raw) s =
        .next ((done.withMot { running with starting := none }).withSmp (done.smp.replied
          { code := 0x30, tag := tag, status := if clamped then .okClamped else .ok,
            data := [v] ++ le16 seq ++ le32 c.tbc, clears := false }))) ∧
    (s.mot.state = .dozeWatch → s.mdc.device ≠ .doze → exec (.sampleReadComplete raw) s = .next counted) ∧
    (∀ ref, s.mot.state = .dozeWatch → s.mdc.device = .doze → s.mot.accelRef = some ref →
      let moves : List Int := [gx, gy, gz, raw.ax.toInt - ref.x.toInt, raw.ay.toInt - ref.y.toInt,
        raw.az.toInt - ref.z.toInt]
      let exceeds (f : WakeFilter) : Prop :=
        ∃ axis v, moves[axis]? = some v ∧ f.axes.getLsbD axis = true ∧ f.threshold < v.natAbs
      let hit (f : WakeFilter) : Prop := f.enabled = true ∧ exceeds f ∧ f.runCount ≤ f.counter + 1
      ∀ after : List WakeFilter, after.length = s.mot.filters.length →
        (∀ (i : Nat) (f : WakeFilter), s.mot.filters[i]? = some f →
          (f.enabled = false → after[i]? = some f) ∧
          (f.enabled = true → ¬ exceeds f ∨ hit f → after[i]? = some { f with counter := 0 }) ∧
          (f.enabled = true → exceeds f → ¬ hit f → after[i]? = some { f with counter := f.counter + 1 })) →
        ((∀ f ∈ s.mot.filters, ¬ hit f) → exec (.sampleReadComplete raw) s =
          .next (counted.withMot { counted.mot with filters := after })) ∧
        (∀ set : Byte, s.mot.filters.length = 4 →
          (∀ i : Nat, set.getLsbD i = true ↔ ∃ f, s.mot.filters[i]? = some f ∧ hit f) →
          (∃ f ∈ s.mot.filters, hit f) → exec (.sampleReadComplete raw) s =
            .next ((counted.withMot { counted.mot with filters := after }).beginWake .motionFilter set c.tbc)))) ∧
  (∀ x y : ReportSample, isDelta x y = true ↔
    0 ≤ (x.tbc - y.tbc).toInt ∧ (x.tbc - y.tbc).toInt ≤ 65535 ∧
      ∀ d ∈ [x.gyro.x.toInt - y.gyro.x.toInt, x.gyro.y.toInt - y.gyro.y.toInt, x.gyro.z.toInt - y.gyro.z.toInt,
        x.accel.x.toInt - y.accel.x.toInt, x.accel.y.toInt - y.accel.y.toInt, x.accel.z.toInt - y.accel.z.toInt],
        -128 ≤ d ∧ d ≤ 127)

/-- No motion is lost in the residues: over any run of samples from an accumulator and a residue of 0 the accumulator
is the floor of the whole sum over 1,000,000, modulo 2^32, and the residue is the rest (R64). -/
def Obligations.IntegrationLosesNoMotion : Prop :=
  ∀ samples : List (W16 × Int),
    let total : Int := (samples.map (fun x => x.1.toInt * x.2 * 4096)).sum
    samples.foldl (fun ar x => integrateAxis ar.1 ar.2 x.1 x.2) (0, 0) =
      (BitVec.ofInt 32 (total / 1000000), (total % 1000000).toNat)

/-- The rate writes of a doze and a wake, the power-down write and the stall: DOZE_WATCH at 100 Hz, RUNNING at the
output rate with the stall timer started, a write whose state was left changes the sensor alone, the transaction that
waits longest goes on the bus, and a write that answers the Mode Controller's order finishes its strand (R61, R74,
R75). A stall completes the report under assembly, aborts a calibration and is noticed (R66, R67, R72). MOTION STOP: in
OFF nothing but the reply; elsewhere, as one event, a read is abandoned, a start and a calibration are aborted, the
report under assembly is offered, the ring is emptied, EC5 is disarmed and the power-down write is wanted, while what
is on the bus runs on for a state that was left; then the stop is replied OK (R16, R59, R61; the order of its records
is log entry 23). -/
def Obligations.SensorWritesTheStallAndTheStop : Prop :=
  (∀ (s : State) (b : Tx), s.mdc.inReset = false → s.mot.bus = some b → b.left = 0 →
    let freed (x : SensorSetting) : Mot :=
      { s.mot with bus := s.mot.waiting.head?, waiting := s.mot.waiting.tail, sensor := x }
    let answered (t : State) : State :=
      if b.answers = true then ((t.withMdc { t.mdc with doneMotion := true }).finishDoze).finishWaking else t
    (b.kind = .rateWatch → exec .rateWriteComplete s = .next (answered (s.withMot
      (if b.wanted = true then { freed (.rate b.rate) with state := .dozeWatch } else freed (.rate b.rate))))) ∧
    (b.kind = .rateRun → exec .rateWriteComplete s = .next (answered (s.withMot
      (if b.wanted = true then
        { freed (.rate b.rate) with state := .running, stallLeft := some (4 * (1000000 / s.mot.rate)) }
      else freed (.rate b.rate))))) ∧
    (b.kind = .powerDown →
      exec .powerDownWriteComplete s = .next (answered (s.withMot (freed .poweredDown))))) ∧
  (∀ s : State, s.mdc.inReset = false → s.mot.state = .running → s.mot.stallLeft = some 0 →
    let reported : State := match s.mot.draft with
      | none => s
      | some d =>
        if d.samples = [] then s.withMot { s.mot with draft := none }
        else (s.withMot { s.mot with draft := none }).offerMotion
          { first := d.first, samples := d.samples, acc := s.mot.acc, dropped := 0 }
    let answered : State := match s.mot.cal with
      | none => reported
      | some c => (reported.withMot { reported.mot with cal := none }).withSmp (reported.smp.replied
          { code := 0x35, tag := c.tag, status := .aborted, data := num16 c.count, clears := false })
    exec .stallTimeout s = .next ((answered.withMot
      { answered.mot with state := .stalled, stallLeft := none }).notify (.motion false s.ftb.tbc s.mot.seq))) ∧
  (∀ (s : State) (tag : Byte), s.Runs (.motionStop tag) →
    (s.mot.state = .off → exec (.motionStop tag) s = .next (s.answering (.motionStop tag) .ok [])) ∧
    (s.mot.state ≠ .off →
      let begun := s.claiming (.motionStop tag)
      let freed : State :=
        if ∃ x, s.mot.bus = some x ∧ x.kind = .sampleRead then begun.withMot
          { s.mot with bus := s.mot.waiting.head?, waiting := s.mot.waiting.tail, reading := none }
        else begun
      let started : State := match s.mot.starting with
        | none => freed
        | some (t, _) => (freed.withMot { freed.mot with starting := none }).withSmp (freed.smp.replied
            { code := 0x30, tag := t, status := .aborted, data := [], clears := false })
      let calibrated : State := match s.mot.cal with
        | none => started
        | some c => (started.withMot { started.mot with cal := none }).withSmp (started.smp.replied
            { code := 0x35, tag := c.tag, status := .aborted, data := num16 c.count, clears := false })
      let reported : State := match s.mot.draft with
        | none => calibrated
        | some d =>
          if d.samples = [] then calibrated.withMot { calibrated.mot with draft := none }
          else (calibrated.withMot { calibrated.mot with draft := none }).offerMotion
            { first := d.first, samples := d.samples, acc := s.mot.acc, dropped := 0 }
      let left (x : Tx) : Tx := { x with wanted := false }
      let down : Tx := { kind := .powerDown, left := 20, wanted := true, answers := false }
      exec (.motionStop tag) s = .next (((reported.withMot
        { reported.mot with
          state := .off, configured := false, firstLeft := none, stallLeft := none, ring := [], prevTbc := none,
          filters := s.mot.filters.map (fun f => { f with counter := 0 }),
          bus := some ((freed.mot.bus.map left).getD down),
          waiting := freed.mot.waiting.map left ++ (if freed.mot.bus.isSome then [down] else []) }).withFtb
            { s.ftb with armed := false, slot := none, overrun := false }).replying (.motionStop tag) .ok [])))

/-- The Motion Unit's settings: BIAS SET is refused BUSY under a calibration and otherwise clamps and writes, RECENTRE
adds its offsets to the accumulators and to every ring entry, and WAKEFILTER SET writes a filter whole and clears its
run counter (R70, R73, R77). -/
def Obligations.MotionSettingsAreWritten : Prop :=
  ∀ (s : State) (tag : Byte),
    let clamp (v : W16) : Int := max (-2048) (min 2047 v.toInt)
    let moved (v : Option W16) : Bool := v.any (fun x => x.toInt < -2048 || 2047 < x.toInt)
    (∀ f : BiasFields, s.Runs (.biasSet tag f) →
      (s.mot.cal.isSome = true → exec (.biasSet tag f) s = .next (s.answering (.biasSet tag f) .busy [])) ∧
      (s.mot.cal = none → f.stray = true →
        exec (.biasSet tag f) s = .next (s.answering (.biasSet tag f) .badValue [])) ∧
      (s.mot.cal = none → f.stray = false → exec (.biasSet tag f) s = .next (((s.claiming (.biasSet tag f)).withMot
        { s.mot with
          bias :=
            { x := (f.x.map clamp).getD s.mot.bias.x, y := (f.y.map clamp).getD s.mot.bias.y,
              z := (f.z.map clamp).getD s.mot.bias.z } }).replying (.biasSet tag f)
          (if moved f.x || moved f.y || moved f.z then .okClamped else .ok) []))) ∧
    (∀ f : RecentreFields, s.Runs (.recentre tag f) →
      let o : Angles W32 := if f.mode = 0 then { yaw := -s.mot.acc.yaw, pitch := -s.mot.acc.pitch, roll := -s.mot.acc.roll }
        else if f.mode = 1 then
          { yaw := f.yaw - s.mot.acc.yaw, pitch := f.pitch - s.mot.acc.pitch, roll := f.roll - s.mot.acc.roll }
        else { yaw := f.yaw, pitch := f.pitch, roll := f.roll }
      let add (a : Angles W32) : Angles W32 := { yaw := a.yaw + o.yaw, pitch := a.pitch + o.pitch, roll := a.roll + o.roll }
      (2 < f.mode.toNat → exec (.recentre tag f) s = .next (s.answering (.recentre tag f) .badValue [])) ∧
      (f.mode.toNat ≤ 2 → exec (.recentre tag f) s = .next (((s.claiming (.recentre tag f)).withMot
        { s.mot with acc := add s.mot.acc, ring := s.mot.ring.map (fun e => { e with acc := add e.acc }) }).replying
          (.recentre tag f) .ok (le32 o.yaw ++ le32 o.pitch ++ le32 o.roll ++
            [if s.mot.integrated then 1 else 0] ++ le16 (if s.mot.integrated then s.mot.seq else 0))))) ∧
    (∀ f : WakeFilterFields, s.Runs (.wakefilterSet tag f) →
      let bad := 3 < f.index.toNat ∨ 1 < f.enable.toNat ∨ 63 < f.axes.toNat ∨ (f.enable = 1 ∧ f.axes = 0)
      (bad → exec (.wakefilterSet tag f) s = .next (s.answering (.wakefilterSet tag f) .badValue [])) ∧
      (¬ bad → exec (.wakefilterSet tag f) s = .next (((s.claiming (.wakefilterSet tag f)).withMot
        { s.mot with
          filters := s.mot.filters.set f.index.toNat
            { enabled := decide (f.enable = 1), axes := f.axes, threshold := max 1 (min 32767 f.threshold.toNat),
              runCount := max 1 (min 64 f.runCount.toNat), counter := 0 } }).replying (.wakefilterSet tag f)
          (if f.threshold.toNat < 1 || 32767 < f.threshold.toNat || f.runCount.toNat < 1 || 64 < f.runCount.toNat
            then .okClamped else .ok) [])))

/-- CALIBRATE in the order of its checks; an accepted one opens an empty context and its reply waits (R71). A
calibration weighs each sample, which its sums, least and greatest values take in (the sample reaches it in the events
of ASampleIsBiasedTimedAndIntegrated): movement above the stillness limit ends it MOVED, N samples end it with the bias
set to the clamped nearest mean, and any other sample is only added (R72). -/
def Obligations.CalibrationsOpenAndEnd : Prop :=
  (∀ (s : State) (tag : Byte) (f : CalibrateFields),
    let c : Instr := .calibrate tag f
    let wrong := s.mdc.device = .dozeEntry ∨ s.mdc.device = .doze ∨ s.mdc.device = .waking ∨ s.mot.state ≠ .running
    let bad := f.stray = true ∨ ¬ (f.n = 256 ∨ f.n = 512 ∨ f.n = 1024 ∨ f.n = 2048 ∨ f.n = 4096)
    s.Runs c →
      (s.mot.cal.isSome = true → exec c s = .next (s.answering c .busy [])) ∧
      (s.mot.cal = none → wrong → exec c s = .next (s.answering c .wrongState [])) ∧
      (s.mot.cal = none → ¬ wrong → bad → exec c s = .next (s.answering c .badValue [])) ∧
      (s.mot.cal = none → ¬ wrong → ¬ bad → exec c s = .next ((s.claiming c).withMot
        { s.mot with
          cal := some
            { tag := tag, clamped := f.stillness.any (fun v => v.toNat < 1 || 2048 < v.toNat), n := f.n.toNat,
              stillness := (f.stillness.map (fun v => max 1 (min 2048 v.toNat))).getD 48, count := 0,
              sum := { x := 0, y := 0, z := 0 }, least := { x := none, y := none, z := none },
              greatest := { x := none, y := none, z := none } } }))) ∧
  (∀ (s : State) (raw : RawSample), s.mot.cal = none → s.calibrateSample raw = s) ∧
  (∀ (s : State) (c : Calibration) (raw : RawSample), s.mot.cal = some c →
    let low (x : Option Int) (v : Int) : Int := min (x.getD v) v
    let high (x : Option Int) (v : Int) : Int := max (x.getD v) v
    let lx := low c.least.x raw.gx.toInt
    let ly := low c.least.y raw.gy.toInt
    let lz := low c.least.z raw.gz.toInt
    let hx := high c.greatest.x raw.gx.toInt
    let hy := high c.greatest.y raw.gy.toInt
    let hz := high c.greatest.z raw.gz.toInt
    let sum : Axes Int :=
      { x := c.sum.x + raw.gx.toInt, y := c.sum.y + raw.gy.toInt, z := c.sum.z + raw.gz.toInt }
    let extremes : List Byte := int16 lx ++ int16 hx ++ int16 ly ++ int16 hy ++ int16 lz ++ int16 hz
    let reply (st : Status) (d : List Byte) : Smp :=
      s.smp.replied { code := 0x35, tag := c.tag, status := st, data := d, clears := false }
    let wide := (c.stillness : Int) < hx - lx ∨ (c.stillness : Int) < hy - ly ∨ (c.stillness : Int) < hz - lz
    let mean (sum : Int) : Int := max (-2048) (min 2047 (nearest sum c.n))
    let b : Axes Int := { x := mean sum.x, y := mean sum.y, z := mean sum.z }
    (wide → s.calibrateSample raw =
      (s.withMot { s.mot with cal := none }).withSmp (reply .moved (num16 (c.count + 1) ++ extremes))) ∧
    (¬ wide → c.count + 1 < c.n → s.calibrateSample raw = s.withMot { s.mot with
      cal := some
        { c with
          count := c.count + 1, sum := sum, least := { x := some lx, y := some ly, z := some lz },
          greatest := { x := some hx, y := some hy, z := some hz } } }) ∧
    (¬ wide → c.n ≤ c.count + 1 → s.calibrateSample raw =
      (s.withMot { s.mot with cal := none, bias := b }).withSmp
        (reply (if c.clamped = true ∨ b.x ≠ nearest sum.x c.n ∨ b.y ≠ nearest sum.y c.n ∨ b.z ≠ nearest sum.z c.n
            then .okClamped else .ok)
          (int16 b.x ++ int16 b.y ++ int16 b.z ++ extremes))))

/-- MOTION GET, BIAS GET and WAKEFILTER GET change nothing but their reply, which carries what their rules name, in
the layout of section 10.6 (R60, R70, R77). AUDIO GET changes nothing but its reply, which carries what R112 names, in
the layout of section 10.6. -/
def Obligations.MotionAndAudioReads : Prop :=
  (∀ (s : State) (tag : Byte),
    let m := s.mot
    let bit (b : Bool) (v : Byte) : Byte := if b then v else 0
    (s.Runs (.motionGet tag) → exec (.motionGet tag) s = .next (s.answering (.motionGet tag) .ok
      ([bit m.expected.isSome 1 ||| bit m.lastIdentity.isSome 2 ||| bit m.integrated 4 ||| bit (!m.ring.isEmpty) 8 |||
          bit m.cal.isSome 16, m.state.code] ++ num16 m.rate ++ num8 m.batch ++
        [bit (!s.ftb.edgeRising) 1, m.expected.getD 0, m.lastIdentity.getD 0] ++ int16 m.bias.x ++ int16 m.bias.y ++
        int16 m.bias.z ++ le32 m.acc.yaw ++ le32 m.acc.pitch ++ le32 m.acc.roll ++ num32 m.residue.yaw ++
        num32 m.residue.pitch ++ num32 m.residue.roll ++ le16 (if m.integrated then m.seq else 0) ++
        num8 m.ring.length ++ le16 ((m.ring.head?.map (·.seq)).getD 0) ++ num8 m.queue.length ++
        num16 ((m.cal.map (·.n)).getD 0) ++ num16 ((m.cal.map (·.stillness)).getD 0) ++
        num16 ((m.cal.map (·.count)).getD 0)))) ∧
    (s.Runs (.biasGet tag) → exec (.biasGet tag) s = .next (s.answering (.biasGet tag) .ok
      (int16 m.bias.x ++ int16 m.bias.y ++ int16 m.bias.z))) ∧
    (s.Runs (.wakefilterGet tag) → exec (.wakefilterGet tag) s = .next (s.answering (.wakefilterGet tag) .ok
      (m.filters.flatMap (fun f => [bit f.enabled 1, f.axes] ++ num16 f.threshold ++ num8 f.runCount ++
        num8 f.counter))))) ∧
  (∀ (s : State) (tag : Byte), s.Runs (.audioGet tag) →
    let a := s.aud
    let bit (b : Bool) (v : Byte) : Byte := if b then v else 0
    exec (.audioGet tag) s = .next (s.answering (.audioGet tag) .ok
      ([a.playout.code, bit a.underrun 1 ||| bit a.ramp.isSome 2 ||| bit a.powerFailHold 4 ||| bit a.micRunning 8 |||
          bit (!a.queue.isEmpty) 16 ||| bit a.micDraft.isSome 32] ++ num8 ((a.ramp.map (·.step)).getD 0) ++
        num16 (a.queue.map (fun b => b.samples.length - b.consumed)).sum ++ num8 a.queue.length ++
        le16 ((a.queue.head?.map (·.tag)).getD 0) ++ num16 ((a.queue.head?.map (·.consumed)).getD 0) ++
        le16 ((a.queue.getLast?.map (·.tag)).getD 0) ++ num16 a.gainL ++ num16 a.gainR ++ num16 a.prefill ++
        num16 a.blockSize ++ num16 a.cap ++ num16 ((a.micDraft.map (fun d => d.samples.length)).getD 0) ++
        le16 a.blockSeq ++ num8 a.uplink.length)))

/-! ## Audio Unit -/

/-- An output period by the state it finds: a ramp gives its step, the power-fail hold and STOPPED give silence,
PRIMING waits for the prefill, PLAYING consumes one frame, and an empty queue in PLAYING is an underrun (R96, R100 to
R103, R106, R109). -/
def Obligations.OutputPeriodsFollowThePlayoutState : Prop :=
  ∀ s : State, s.aud.periodDue = true →
    let out (a : Aud) (frame : Stereo) : Aud :=
      { a with
        periodDue := false, micPhase := (s.aud.micPhase + 1) % 3, micDue := decide ((s.aud.micPhase + 1) % 3 = 0),
        cap := s.gov.cap,
        output :=
          { l := BitVec.ofInt 16 (frame.l.toInt * (min s.aud.gainL s.gov.cap : Nat) / 256),
            r := BitVec.ofInt 16 (frame.r.toInt * (min s.aud.gainR s.gov.cap : Nat) / 256) } }
    let fade (base : Stereo) (i : Nat) : Stereo :=
      { l := BitVec.ofInt 16 (Int.tdiv (base.l.toInt * (32 - (i : Int))) 32),
        r := BitVec.ofInt 16 (Int.tdiv (base.r.toInt * (32 - (i : Int))) 32) }
    let silence : Stereo := { l := 0, r := 0 }
    let counted (t : State) : State :=
      if s.aud.playout = .priming ∧ s.aud.underrun = true ∧ s.aud.powerFailHold = false then t.note .underrun else t
    (∀ r, s.aud.ramp = some r → r.step < 32 → exec .outputPeriod s =
      .next (counted (s.withAud
        (out { s.aud with ramp := some { r with step := r.step + 1 } } (fade r.base r.step))))) ∧
    (∀ r, s.aud.ramp = some r → r.step = 32 → exec .outputPeriod s =
      .next (counted (s.withAud (out { s.aud with ramp := none, lastFrame := silence } silence)))) ∧
    (s.aud.ramp = none → s.aud.powerFailHold = true ∨ s.aud.playout = .stopped →
      exec .outputPeriod s = .next (s.withAud (out s.aud silence))) ∧
    (s.aud.ramp = none → s.aud.powerFailHold = false → s.aud.playout = .priming → s.aud.fill < s.aud.prefill →
      exec .outputPeriod s = .next (if s.aud.underrun then (s.withAud (out s.aud silence)).note .underrun
        else s.withAud (out s.aud silence))) ∧
    (∀ b rest frame, s.aud.ramp = none → s.aud.powerFailHold = false →
      s.aud.playout = .playing ∨ (s.aud.playout = .priming ∧ s.aud.prefill ≤ s.aud.fill) →
      s.aud.queue = b :: rest → b.samples[b.consumed]? = some frame →
      exec .outputPeriod s = .next (s.withAud (out
        { s.aud with
          playout := .playing, underrun := if s.aud.playout = .playing then s.aud.underrun else false,
          lastFrame := frame,
          queue := if b.samples.length = b.consumed + 1 then rest
            else { b with consumed := b.consumed + 1 } :: rest } frame))) ∧
    (s.aud.ramp = none → s.aud.powerFailHold = false → s.aud.playout = .playing → s.aud.queue = [] →
      exec .outputPeriod s = .next ((s.withAud (out
        { s.aud with
          playout := .priming, underrun := true, ramp := some { base := s.aud.lastFrame, step := 2 } }
        (fade s.aud.lastFrame 1))).note .underrun))

/-- A microphone sample: with the microphone OFF it is passed by; in RUNNING it opens a block or joins the open one,
and a block that reaches its size is numbered and offered (R108 to R110). -/
def Obligations.MicrophoneSamplesFillBlocks : Prop :=
  ∀ (s : State) (v : W16), s.mdc.inReset = false → s.aud.micDue = true →
    (s.aud.micRunning = false → exec (.micSample v) s = .next (s.withAud { s.aud with micDue := false })) ∧
    (s.aud.micRunning = true → s.aud.micDraft = none → 1 < s.aud.blockSize → exec (.micSample v) s =
      .next (s.withAud
        { s.aud with
          micDue := false,
          micDraft := some { tbc := s.ftb.tbc, size := s.aud.blockSize, samples := [v] } })) ∧
    (∀ d, s.aud.micRunning = true → s.aud.micDraft = some d → d.samples.length + 1 < d.size →
      exec (.micSample v) s = .next (s.withAud
        { s.aud with micDue := false, micDraft := some { d with samples := d.samples ++ [v] } })) ∧
    (∀ d, s.aud.micRunning = true → s.aud.micDraft = some d → d.size ≤ d.samples.length + 1 →
      exec (.micSample v) s = .next ((s.withAud
        { s.aud with micDue := false, micDraft := none, blockSeq := s.aud.blockSeq + 1 }).offerMic
          { seq := s.aud.blockSeq + 1, tbc := d.tbc, samples := d.samples ++ [v], lostBefore := 0 }))

/-- The AUDIO commands: SET clamps every field, PLAY_START and MIC_START are refused WRONG_STATE around a doze, and
the two STOPs empty what they stop, a playout stop with a ramp from the last frame played (R99, R103, R104, R108,
R111). -/
def Obligations.AudioCommandsSetStartAndStop : Prop :=
  ∀ (s : State) (tag : Byte),
    let dozing := s.mdc.device = .dozeEntry ∨ s.mdc.device = .doze ∨ s.mdc.device = .waking
    let wide (v : Option W16) (lo hi : Nat) : Bool := v.any (fun x => x.toNat < lo || hi < x.toNat)
    let into (v : Option W16) (lo hi old : Nat) : Nat := (v.map (fun x => max lo (min hi x.toNat))).getD old
    (∀ f : AudioFields, s.Runs (.audioSet tag f) →
      (f.stray = true → exec (.audioSet tag f) s = .next (s.answering (.audioSet tag f) .badValue [])) ∧
      (f.stray = false → exec (.audioSet tag f) s = .next (((s.claiming (.audioSet tag f)).withAud
        { s.aud with
          gainL := into f.gainL 0 256 s.aud.gainL, gainR := into f.gainR 0 256 s.aud.gainR,
          prefill := into f.prefill 48 4096 s.aud.prefill,
          blockSize := into f.blockSize 80 960 s.aud.blockSize }).replying (.audioSet tag f)
        (if wide f.gainL 0 256 || wide f.gainR 0 256 || wide f.prefill 48 4096 || wide f.blockSize 80 960
          then .okClamped else .ok) []))) ∧
    (s.Runs (.audioPlayStart tag) →
      (dozing → exec (.audioPlayStart tag) s = .next (s.answering (.audioPlayStart tag) .wrongState [])) ∧
      (¬ dozing → s.aud.playout = .stopped → exec (.audioPlayStart tag) s =
        .next (((s.claiming (.audioPlayStart tag)).withAud
          { s.aud with playout := .priming, underrun := false, queue := [] }).replying (.audioPlayStart tag) .ok [])) ∧
      (¬ dozing → s.aud.playout ≠ .stopped →
        exec (.audioPlayStart tag) s = .next (s.answering (.audioPlayStart tag) .ok []))) ∧
    (s.Runs (.audioPlayStop tag) →
      (s.aud.playout = .stopped →
        exec (.audioPlayStop tag) s = .next (s.answering (.audioPlayStop tag) .ok [])) ∧
      (s.aud.playout ≠ .stopped → exec (.audioPlayStop tag) s = .next (((s.claiming (.audioPlayStop tag)).withAud
        { s.aud with
          playout := .stopped, underrun := false, queue := [],
          ramp := some (s.aud.ramp.getD { base := s.aud.lastFrame, step := 1 }) }).replying
            (.audioPlayStop tag) .ok []))) ∧
    (s.Runs (.micStart tag) →
      (dozing → exec (.micStart tag) s = .next (s.answering (.micStart tag) .wrongState [])) ∧
      (¬ dozing → exec (.micStart tag) s = .next (((s.claiming (.micStart tag)).withAud
        { s.aud with micRunning := true }).replying (.micStart tag) .ok []))) ∧
    (s.Runs (.micStop tag) → exec (.micStop tag) s = .next (((s.claiming (.micStop tag)).withAud
      { s.aud with micRunning := false, micDraft := none }).replying (.micStop tag) .ok []))

/-! ## Supply Monitor -/

/-- A conversion completes: the input's entry takes the value and its time, folds it into the least and the greatest
and marks an unreported value overwritten; the watch check and, for M0, the undervoltage test follow, and within a
round the next input's conversion begins (R115, R116). The end of a frame round: its M0, M1 and M7 values reach the
Governor and it counts toward the divider, whose count forms a report; the end of a ONE_SHOT: its values are replied;
the end of a continuous round: a report, and the series' next round waits. The next round then starts, a pending frame
round before a waiting one (R118, R119, R122). A report carries the inputs of the mask, whose entries are set back, and
is merged with an unsent one (R122, R123). A watch limit by the table of R121: a value outside an armed limit disarms
it and queues a WATCH notice, a value outside a disarmed one does nothing, and a value within re-arms it without a
notice. -/
def Obligations.ConversionsUpdateAndWatch : Prop :=
  (∀ (s : State) (code : BitVec 12) (r : Round) (x : Entry), s.mdc.inReset = false → s.mon.round = some r →
    r.left = 0 → s.mon.entries[r.input]? = some x →
    let c := code.toNat
    let v : Int := if r.input = 0 then ((c * 5 : Nat) : Int) else if r.input ≤ 4 then ((c * 5 / 4 : Nat) : Int)
      else ((c * 5 / 4 : Nat) : Int) - 500
    let done := r.done ++ [{ input := r.input, value := v, tbc := s.ftb.tbc }]
    let entered := s.withMon
      { s.mon with
        entries := s.mon.entries.set r.input
          { value := v, tbc := some s.ftb.tbc, least := some (min (x.least.getD v) v),
            greatest := some (max (x.greatest.getD v) v), unreported := true,
            overwritten := x.overwritten || x.unreported } }
    let watched := entered.watchCheck r.input v s.ftb.tbc
    let tested := if r.input = 0 then watched.undervoltage v.toNat s.ftb.tbc else watched
    let begin (m : Mon) (kind : RoundKind) (first last : Nat) : Mon :=
      { m with
        round := some { kind := kind, input := first, first := first, last := last, left := 50, done := [] } }
    let next (t : State) : State := t.withMon
      (if t.mon.pendingFrame = true then begin { t.mon with pendingFrame := false } .frame 0 7
      else match t.mon.waiting with
        | some w => begin { t.mon with waiting := none } w.kind w.first w.last
        | none => { t.mon with round := none })
    let report (t : State) (kind : RoundKind) : State :=
      if t.mon.mask = 0 then t
      else (t.withMon { t.mon with
        entries := t.mon.entries.zipIdx.map (fun e => if t.mon.mask.getLsbD e.2 = true
          then { e.1 with least := none, greatest := none, unreported := false, overwritten := false }
          else e.1) }).offerMonitor
        { kind := kind, tbc := s.ftb.tbc,
          items := ((List.range 8).filter (fun i => t.mon.mask.getLsbD i)).map (fun i =>
            let e := t.mon.entries.getD i
              { value := 0, tbc := none, least := none, greatest := none, unreported := false, overwritten := false }
            { input := i, value := e.value, tbc := e.tbc, least := e.least, greatest := e.greatest,
              overwritten := e.overwritten }) }
    (r.input < r.last → exec (.conversionComplete code) s = .next (tested.withMon
      { tested.mon with round := some { r with input := r.input + 1, left := 50, done := done } })) ∧
    (∀ vin iin : Reading, r.input = 7 → r.last = 7 → r.kind = .frame →
      r.done.find? (fun y => y.input = 0) = some vin → r.done.find? (fun y => y.input = 1) = some iin →
      (∀ y ∈ r.done, y.input ≠ 7) →
      let judged := watched.evaluate vin.value.toNat iin.value.toNat v s.ftb.tbc
      exec (.conversionComplete code) s = .next (next
        (if s.mon.divider = 0 then judged
        else if s.mon.divCount + 1 < s.mon.divider then
          judged.withMon { judged.mon with divCount := s.mon.divCount + 1 }
        else report (judged.withMon { judged.mon with divCount := 0 }) .frame))) ∧
    (∀ t, r.input = r.last → r.kind = .oneShot → s.mon.oneShotTag = some t →
      exec (.conversionComplete code) s = .next (next ((tested.withMon
        { tested.mon with oneShotTag := none }).withSmp (tested.smp.replied
          { code := 0x53, tag := t, status := .ok,
            data := num8 done.length ++ done.flatMap (fun y => num8 y.input ++ int16 y.value ++ le32 y.tbc),
            clears := false })))) ∧
    (r.input = r.last → r.kind = .continuous →
      let formed := report tested .continuous
      exec (.conversionComplete code) s = .next (next
        (if s.mon.series = true then formed.withMon { formed.mon with
          waiting := some { kind := .continuous, first := r.first, last := r.last } }
        else formed)))) ∧
  (∀ (s : State) (input : Nat) (value : Int) (tbc : W32) (low high : Limit), low.value ≤ high.value →
    s.mon.limits[input]? = some { low := some low, high := some high } →
    let set (l h : Limit) : State :=
      s.withMon { s.mon with limits := s.mon.limits.set input { low := some l, high := some h } }
    (value < low.value → s.watchCheck input value tbc =
      if low.armed then (set { low with armed := false } { high with armed := true }).notify
        (.watch input false value tbc)
      else set low { high with armed := true }) ∧
    (high.value < value → s.watchCheck input value tbc =
      if high.armed then (set { low with armed := true } { high with armed := false }).notify
        (.watch input true value tbc)
      else set { low with armed := true } high) ∧
    (low.value ≤ value → value ≤ high.value →
      s.watchCheck input value tbc = set { low with armed := true } { high with armed := true })) ∧
  (∀ (s : State) (r : MonReport),
    (s.smp.sending = none → s.hasRecord = false →
      s.offerMonitor r = s.withSmp { s.smp with sending := some (.monitor r) }) ∧
    (s.smp.sending ≠ none → s.smp.monSlot = none →
      s.offerMonitor r = s.withSmp { s.smp with monSlot := some r }) ∧
    (∀ old, s.smp.sending ≠ none → s.smp.monSlot = some old → ∃ items : List MonItem,
      s.offerMonitor r = s.withSmp { s.smp with monSlot := some { r with items := items } } ∧
      items.length = r.items.length ∧ ∀ (i : Nat) (x : MonItem), r.items[i]? = some x →
        ((∀ y ∈ old.items, y.input ≠ x.input) → items[i]? = some x) ∧
        (∀ y, old.items.find? (fun y => y.input = x.input) = some y → items[i]? = some
          { x with
            least := (match x.least, y.least with
              | some a, some b => some (min a b)
              | some a, none => some a
              | none, b => b),
            greatest := (match x.greatest, y.greatest with
              | some a, some b => some (max a b)
              | some a, none => some a
              | none, b => b),
            overwritten := x.overwritten || decide (x.tbc ≠ y.tbc) })))

/-- ROUND in the order of its checks; an accepted round starts on an IDLE converter and otherwise waits, ONE_SHOT with
its reply deferred and CONTINUOUS with a series in force and replied at once (R118, R119). MONITOR STOP ends on-demand
work only: a running ONE_SHOT is replied ABORTED with the values it has, a series ends, a frame round in progress goes
on, and the stop itself is replied OK (R120). That the ABORTED reply is made before the stop's own OK is the model's
choice (log entry 23). -/
def Obligations.RoundsAreStartedAndStopped : Prop :=
  (∀ (s : State) (tag mode first last : Byte),
    let dozing := s.mdc.device = .dozeEntry ∨ s.mdc.device = .doze ∨ s.mdc.device = .waking
    let work := (∃ r, s.mon.round = some r ∧ r.kind ≠ .frame) ∨ s.mon.waiting ≠ none ∨ s.mon.series = true
    let bad := 7 < first.toNat ∨ 7 < last.toNat ∨ last.toNat < first.toNat
    let start (m : Mon) (kind : RoundKind) : Mon :=
      if s.mon.round = none then
        { m with round := some { kind := kind, input := first.toNat, first := first.toNat, last := last.toNat, left := 50, done := [] } }
      else { m with waiting := some { kind := kind, first := first.toNat, last := last.toNat } }
    let one : Instr := .roundOneShot tag mode first last
    let series : Instr := .roundContinuous tag first last
    (s.Runs one →
      (dozing → exec one s = .next (s.answering one .wrongState [])) ∧
      (¬ dozing → work → exec one s = .next (s.answering one .busy [])) ∧
      (¬ dozing → ¬ work → bad ∨ 1 < mode.toNat → exec one s = .next (s.answering one .badValue [])) ∧
      (¬ dozing → ¬ work → ¬ bad → mode = 0 →
        exec one s = .next ((s.claiming one).withMon (start { s.mon with oneShotTag := some tag } .oneShot)))) ∧
    (s.Runs series →
      (dozing → exec series s = .next (s.answering series .wrongState [])) ∧
      (¬ dozing → work → exec series s = .next (s.answering series .busy [])) ∧
      (¬ dozing → ¬ work → bad → exec series s = .next (s.answering series .badValue [])) ∧
      (¬ dozing → ¬ work → ¬ bad → exec series s =
        .next (((s.claiming series).withMon (start { s.mon with series := true } .continuous)).replying series .ok [])))) ∧
  (∀ (s : State) (tag : Byte),
    let c : Instr := .monitorStop tag
    s.Runs c → s.smp.sending ≠ none →
      (s.mon.round = none ∨ (∃ r, s.mon.round = some r ∧ r.kind = .frame) → s.mon.waiting = none →
        exec c s = .next (((s.claiming c).withMon { s.mon with series := false }).replying c .ok [])) ∧
      (∀ r t, s.mon.round = some r → r.kind = .oneShot → s.mon.oneShotTag = some t → s.mon.waiting = none →
        s.mon.pendingFrame = false → exec c s = .next ((s.claiming c).withMon
          { s.mon with round := none, series := false, oneShotTag := none } |>.withSmp
          { (s.claiming c).smp with
            reserved := (s.claiming c).smp.reserved - 1 - 1,
            held := s.smp.held ++
              [{ code := 0x53, tag := t, status := .aborted,
                 data := num8 r.done.length ++ r.done.flatMap (fun x => num8 x.input ++ int16 x.value ++ le32 x.tbc),
                 clears := false },
               { code := 0x51, tag := tag, status := .ok, data := [], clears := false }] })) ∧
      (∀ r, s.mon.round = some r → r.kind = .continuous → s.mon.waiting = none → s.mon.pendingFrame = true →
        exec c s = .next (((s.claiming c).withMon
          { s.mon with
            series := false, pendingFrame := false,
            round := some { kind := .frame, input := 0, first := 0, last := 7, left := 50, done := [] } }).replying
              c .ok [])))

/-- MONITOR SET in the order of its checks; an accepted one writes the mask, the divider, whose write clears the
divider count, and both limits of each item's input, armed and brought into the input's range (R121, R124). -/
def Obligations.MonitorSetWritesItsParts : Prop :=
  ∀ (s : State) (tag : Byte) (f : MonitorFields),
    let c : Instr := .monitorSet tag f
    let work := (∃ r, s.mon.round = some r ∧ r.kind ≠ .frame) ∨ s.mon.waiting ≠ none ∨ s.mon.series = true
    let bad := f.stray = true ∨ (∃ x ∈ f.items, 7 < x.input.toNat ∨ 3 < x.presence.toNat) ∨
      ¬ (f.items.map (·.input)).Nodup
    let limit (x : LimitItem) (bit : Nat) (v : W16) : Option Int :=
      if x.presence.getLsbD bit then
        some (max (if x.input.toNat ≤ 4 then 0 else -500)
          (min (if x.input.toNat = 0 then 20475 else if x.input.toNat ≤ 4 then 5118 else 4618) v.toInt))
      else none
    let crossed := ∃ x ∈ f.items, ∃ l h, limit x 0 x.low = some l ∧ limit x 1 x.high = some h ∧ h < l
    let armed (v : Option Int) : Option Limit := v.map (fun n => { value := n, armed := true })
    s.Runs c →
      (work → exec c s = .next (s.answering c .busy [])) ∧
      (¬ work → bad → exec c s = .next (s.answering c .badValue [])) ∧
      (¬ work → ¬ bad → crossed → exec c s = .next (s.answering c .conflict [])) ∧
      (¬ work → ¬ bad → ¬ crossed → ∃ t, exec c s = .next t ∧
        t.mon.mask = f.mask.getD s.mon.mask ∧
        t.mon.divider = (f.divider.map (fun v => min 255 v.toNat)).getD s.mon.divider ∧
        t.mon.divCount = (if f.divider.isSome then 0 else s.mon.divCount) ∧
        (∀ x ∈ f.items, x.input.toNat < s.mon.limits.length → t.mon.limits[x.input.toNat]? =
          some { low := armed (limit x 0 x.low), high := armed (limit x 1 x.high) }) ∧
        (∀ i : Nat, (∀ x ∈ f.items, x.input.toNat ≠ i) → t.mon.limits[i]? = s.mon.limits[i]?) ∧
        t.mon.round = s.mon.round ∧ t.mon.entries = s.mon.entries ∧ t.mon.series = s.mon.series ∧
        t.mon.waiting = s.mon.waiting ∧ t.mon.pendingFrame = s.mon.pendingFrame ∧
        t.smp = ((s.claiming c).replying c
          (if f.divider.any (fun v => 255 < v.toNat) ∨ ∃ x ∈ f.items,
              (x.presence.getLsbD 0 = true ∧ limit x 0 x.low ≠ some x.low.toInt) ∨
              (x.presence.getLsbD 1 = true ∧ limit x 1 x.high ≠ some x.high.toInt) then .okClamped else .ok) []).smp ∧
        t.ftb = s.ftb ∧ t.plr = s.plr ∧ t.slm = s.slm ∧ t.scn = s.scn ∧ t.mot = s.mot ∧ t.aud = s.aud ∧
        t.gov = s.gov ∧ t.mdc = s.mdc ∧ t.pending = s.pending)

/-! ## Power Governor -/

/-- An M0 value below V_uv takes the Governor into POWER_FAIL: the strobe is cut at once, the audio is held with a
ramp unless playout is STOPPED, the recovery count is 0 and a GOVERNOR notice is queued, while w_limit and the cap are
kept; in POWER_FAIL it only sets the recovery count to 0, and a value at or above V_uv does nothing (R14, R106, R130).
The six steps of a full evaluation, for a VIN above 0 (R126). The state decided after an evaluation, with the hold
band of SHEDDING first, and what a change of state brings (R127). In POWER_FAIL a frame round's VIN moves the recovery
count, and the third good one in a row makes a full evaluation and releases the audio (R131). -/
def Obligations.TheGovernorFollowsItsRules : Prop :=
  (∀ (s : State) (vin : Nat) (tbc : W32),
    (s.gov.vuv ≤ vin → s.undervoltage vin tbc = s) ∧
    (vin < s.gov.vuv → s.gov.state = .powerFail →
      s.undervoltage vin tbc = s.withGov { s.gov with recovery := 0 }) ∧
    (vin < s.gov.vuv → s.gov.state ≠ .powerFail → s.undervoltage vin tbc =
      ((((s.withGov { s.gov with state := .powerFail, recovery := 0 }).withFtb
        { s.ftb with cut := true, strobe := { l := false, r := false } }).withAud
        { s.aud with
          powerFailHold := true,
          ramp := if s.aud.playout = .stopped then s.aud.ramp
            else some (s.aud.ramp.getD { base := s.aud.lastFrame, step := 1 }) }).notify
        (.governor .powerFail s.gov.state vin tbc)))) ∧
  (∀ (g : Gov) (t : TimingSet) (wLive vin iin : Nat) (skin : Int) (tbc : W32), g.ts < g.tLim → 0 < vin → 0 < t.p →
    let v := g.evaluate t wLive vin iin skin tbc
    (skin ≤ g.ts → v.aEff = g.allowance) ∧ ((g.tLim : Int) ≤ skin → v.aEff = 0) ∧
    ((g.ts : Int) < skin → skin < g.tLim →
      (v.aEff : Int) = (g.allowance : Int) * (g.tLim - skin) / ((g.tLim : Int) - g.ts)) ∧
    v.pIn = vin * iin / 1000 ∧ v.pBl = 2 * vin * t.iPk * wLive / (1000 * t.p) ∧
    (v.pBase : Int) = max 0 ((v.pIn : Int) - v.pBl) ∧ v.budget = (v.aEff : Int) - v.pBase - g.rs ∧
    (t.iPk = 0 → v.wLimit = t.p) ∧ (0 < t.iPk → v.budget ≤ 0 → v.wLimit = 0) ∧
    (0 < t.iPk → 0 < v.budget →
      (v.wLimit : Int) = min (t.p : Int) (v.budget * 1000 * t.p / (2 * vin * t.iPk))) ∧
    v.tbc = tbc ∧ v.vin = vin ∧ v.iin = iin ∧ v.skin = skin ∧ v.wLive = wLive) ∧
  (∀ (g : Gov) (wLimit wReq : Nat),
    let band := g.state = .shedding ∧ wLimit < g.wFloor + g.wFloor / 4
    (band → g.decide wLimit wReq = .shedding) ∧ (¬ band → wReq ≤ wLimit → g.decide wLimit wReq = .normal) ∧
    (¬ band → wLimit < wReq → g.wFloor ≤ wLimit → g.decide wLimit wReq = .limiting) ∧
    (¬ band → wLimit < wReq → wLimit < g.wFloor → g.decide wLimit wReq = .shedding)) ∧
  (∀ (s : State) (vin iin : Nat) (skin : Int) (tbc : W32),
    let wLive := match s.scn.frame with
      | none => 0
      | some f => f.wEff
    let v := s.gov.evaluate s.ftb.live wLive vin iin skin tbc
    let new := s.gov.decide v.wLimit s.ftb.live.wReq
    let g : Gov := { s.gov with wLimit := v.wLimit, evaluation := some v }
    (s.gov.state ≠ .powerFail → new = s.gov.state → s.evaluate vin iin skin tbc = s.withGov g) ∧
    (s.gov.state ≠ .powerFail → new ≠ s.gov.state → s.evaluate vin iin skin tbc = (s.withGov
      { g with state := new, cap := if new = .shedding then 128 else 256 }).notify
        (.governor new s.gov.state v.wLimit tbc)) ∧
    (s.gov.state = .powerFail → vin < s.gov.vuv + 500 →
      s.evaluate vin iin skin tbc = s.withGov { s.gov with recovery := 0 }) ∧
    (s.gov.state = .powerFail → s.gov.vuv + 500 ≤ vin → s.gov.recovery < 2 →
      s.evaluate vin iin skin tbc = s.withGov { s.gov with recovery := s.gov.recovery + 1 }) ∧
    (s.gov.state = .powerFail → s.gov.vuv + 500 ≤ vin → 2 ≤ s.gov.recovery → s.evaluate vin iin skin tbc =
      ((s.withGov { g with state := new, recovery := 0, cap := if new = .shedding then 128 else 256 }).withAud
        { s.aud with
          powerFailHold := false, ramp := none,
          lastFrame := if s.aud.ramp = none then s.aud.lastFrame else { l := 0, r := 0 } }).notify
            (.governor new .powerFail v.wLimit tbc)))

/-- A width within the limit spends no more than the budget: with the strobes at any width up to the new w_limit, the
backlight estimate of R126 stays within B_gov, and w_limit never exceeds P (R126). -/
def Obligations.TheWidthLimitKeepsTheBudget : Prop :=
  ∀ (g : Gov) (t : TimingSet) (wLive w vin iin : Nat) (skin : Int) (tbc : W32), 0 < vin → 0 < t.p →
    let v := g.evaluate t wLive vin iin skin tbc
    w ≤ v.wLimit →
      v.wLimit ≤ t.p ∧ ((2 * vin * t.iPk * w / (1000 * t.p) : Nat) : Int) ≤ max 0 v.budget

/-- ALLOWANCE SET and LIMITS SET clamp and write, LIMITS SET is refused CONFLICT where T_lim would not stay above T_s,
and the two GETs change nothing but their reply (R128, R129). -/
def Obligations.GovernorSettingsAndReads : Prop :=
  ∀ (s : State) (tag : Byte),
    let g := s.gov
    let into (v : Option W16) (lo hi old : Nat) : Nat := (v.map (fun x => max lo (min hi x.toNat))).getD old
    let wide (v : Option W16) (lo hi : Nat) : Bool := v.any (fun x => x.toNat < lo || hi < x.toNat)
    let settings : List Byte := num16 g.rs ++ num16 g.vuv ++ num16 g.wFloor ++ num16 g.ts ++ num16 g.tLim
    (∀ a : W16, s.Runs (.allowanceSet tag a) → exec (.allowanceSet tag a) s =
      .next (((s.claiming (.allowanceSet tag a)).withGov { g with allowance := min 30000 a.toNat }).replying
        (.allowanceSet tag a) (if 30000 < a.toNat then .okClamped else .ok) [])) ∧
    (∀ f : LimitsFields, s.Runs (.limitsSet tag f) →
      let n : Gov :=
        { g with
          rs := into f.rs 0 2000 g.rs, vuv := into f.vuv 6500 14000 g.vuv, wFloor := into f.wFloor 0 2000 g.wFloor,
          ts := into f.ts 0 1000 g.ts, tLim := into f.tLim 0 1000 g.tLim }
      (f.stray = true → exec (.limitsSet tag f) s = .next (s.answering (.limitsSet tag f) .badValue [])) ∧
      (f.stray = false → n.tLim ≤ n.ts →
        exec (.limitsSet tag f) s = .next (s.answering (.limitsSet tag f) .conflict [])) ∧
      (f.stray = false → n.ts < n.tLim → exec (.limitsSet tag f) s =
        .next (((s.claiming (.limitsSet tag f)).withGov n).replying (.limitsSet tag f)
          (if wide f.rs 0 2000 || wide f.vuv 6500 14000 || wide f.wFloor 0 2000 || wide f.ts 0 1000 ||
            wide f.tLim 0 1000 then .okClamped else .ok) []))) ∧
    (s.Runs (.limitsGet tag) →
      exec (.limitsGet tag) s = .next (s.answering (.limitsGet tag) .ok settings)) ∧
    (s.Runs (.allowanceGet tag) → exec (.allowanceGet tag) s = .next (s.answering (.allowanceGet tag) .ok
      (num16 g.allowance ++ settings ++ [g.state.code] ++ num16 g.wLimit ++ num16 g.cap ++ num8 g.recovery ++
        (match g.evaluation with
        | none => List.replicate 33 0
        | some v => [1] ++ le32 v.tbc ++ num16 v.vin ++ num16 v.iin ++ int16 v.skin ++ num16 v.wLive ++ num16 v.aEff ++
            num32 v.pIn ++ num32 v.pBl ++ num32 v.pBase ++ int32 v.budget ++ num16 v.wLimit))))

/-! ## Mode Controller -/

/-- What MODE refuses, and what it answers at once: the table of R134 above its last row, its first matching row
first. -/
def Obligations.ModeFollowsItsTable : Prop :=
  ∀ (s : State) (tag target : Byte) (c : Instr),
    c = .modeRun tag target ∨ (c = .modeStandby tag ∧ target = 1) ∨ (c = .modeDoze tag ∧ target = 2) ∨
      (c = .modeWake tag ∧ target = 3) →
    s.Runs c →
    let d := s.mdc.device
    let moving := d = .starting ∨ d = .stopping ∨ d = .dozeEntry ∨ d = .waking
    let same := (target = 0 ∧ d = .run) ∨ (target = 1 ∧ d = .standby) ∨ (target = 2 ∧ d = .doze)
    let wrong := (target = 3 ∧ d ≠ .doze) ∨ ((target = 0 ∨ target = 1) ∧ d = .doze) ∨
      (target = 0 ∧ s.gov.state = .powerFail)
    (moving → exec c s = .next (s.answering c .busy [])) ∧
    (¬ moving → 3 < target.toNat → exec c s = .next (s.answering c .badValue [])) ∧
    (¬ moving → same → exec c s = .next (s.answering c .ok [d.code, 0, 0, 0, 0, 0, 0, 0])) ∧
    (¬ moving → target.toNat ≤ 3 → ¬ same → wrong → exec c s = .next (s.answering c .wrongState []))

/-- The transitions an accepted MODE begins, its reply deferred: RUN powers the panels up, STANDBY sends the stop
request, DOZE sets the hold and stops the audio, and WAKE lifts the hold and writes the wake source record if it was
invalid (R135, R136, R141 to R144). -/
def Obligations.AcceptedModesBeginTheirTransitions : Prop :=
  ∀ (s : State) (tag : Byte),
    (s.Runs (.modeRun tag 0) → s.mdc.device = .standby → s.gov.state ≠ .powerFail → exec (.modeRun tag 0) s =
      .next ((s.claiming (.modeRun tag 0)).withMdc
        { s.mdc with
          device := .starting, modeTag := some tag, panel := .powering, panelLeft := 20000, donePanels := false,
          doneAudio := false, doneMotion := false, doneLane := false })) ∧
    (s.Runs (.modeStandby tag) → s.mdc.device = .run → s.scn.mode = .scanning → exec (.modeStandby tag) s =
      .next (((s.claiming (.modeStandby tag)).withMdc
        { s.mdc with
          device := .stopping, modeTag := some tag, offHead := none, donePanels := false, doneAudio := false,
          doneMotion := false, doneLane := false }).withScn { s.scn with mode := .stopPending })) ∧
    (s.Runs (.modeDoze tag) → s.mdc.device = .run → s.scn.mode = .scanning → ∃ t, exec (.modeDoze tag) s = .next t ∧
      t.mdc.device = .dozeEntry ∧ t.mdc.modeTag = some tag ∧ t.mdc.prior = some .run ∧ t.mdc.offHead = none ∧
      t.mdc.doneAudio = true ∧ t.mdc.donePanels = false ∧ t.scn.mode = .stopPending ∧ t.plr.hold = true ∧
      (s.plr.lane = .active ∧ s.plr.burst = .none → t.plr.lane = .idle) ∧
      (t.mdc.doneLane = true ↔ t.plr.lane ≠ .active) ∧ t.aud.playout = .stopped ∧ t.aud.queue.length ≤ s.aud.queue.length ∧
      t.aud.micRunning = false ∧ t.ftb.live = s.ftb.live ∧ t.slm = s.slm ∧ t.mon = s.mon ∧ t.gov = s.gov ∧
      t.mot.acc = s.mot.acc ∧ t.pending = s.pending) ∧
    (s.Runs (.modeWake tag) → s.mdc.device = .doze → s.mdc.prior = some .run → ∃ t, exec (.modeWake tag) s = .next t ∧
      t.mdc.device = .waking ∧ t.mdc.modeTag = some tag ∧ t.mdc.prior = some .run ∧ t.mdc.panel = .powering ∧
      t.mdc.panelLeft = 20000 ∧ t.plr.hold = false ∧ (s.plr.lane = .idle → t.plr.lane = .waking ∧
        t.plr.waitLeft = s.plr.tWait) ∧
      t.mdc.wakeRecord = some (s.mdc.wakeRecord.getD { kind := .command, filters := 0, tbc := s.ftb.tbc }) ∧
      t.ftb = s.ftb ∧ t.slm = s.slm ∧ t.scn = s.scn ∧ t.mon = s.mon ∧ t.gov = s.gov ∧ t.pending = s.pending)

/-- The panels' intervals end: ON sends the start request, OFF ends STOPPING in STANDBY with the deferred reply, and in
DOZE_ENTRY finishes the strand of the panels (R135, R136, R141). The off-head timer and the proximity line: expiry
queues a MODE notice of DOZE_ENTRY, cause OFF_HEAD and the TBC (its state left is log entry 19), and enters the doze;
an edge in RUN starts or stops the timer, an on-head edge in DOZE begins a wake, and elsewhere an edge only moves the
line (R141, R143, R145). A level that the line already has is no edge (the model's choice, log entry 25). What the
entry and the wake do, and the last strand's end, is said in DozeEntryAndWakeRunTheirStrands. -/
def Obligations.PanelsProximityAndTheOffHeadTimer : Prop :=
  (∀ s : State, s.mdc.inReset = false → s.mdc.panelLeft = 0 →
    (s.mdc.panel = .powering → exec .panelPowerUpDone s =
      .next ((s.withMdc { s.mdc with panel := .on }).withScn
        { s.scn with mode := if s.scn.mode = .stopped then .startPending else s.scn.mode })) ∧
    (∀ tag, s.mdc.panel = .poweringDown → s.mdc.device = .stopping → s.mdc.modeTag = some tag →
      exec .panelPowerDownDone s = .next ((s.withMdc
        { s.mdc with panel := .off, device := .standby, modeTag := none }).withSmp (s.smp.replied
          { code := 0x22, tag := tag, status := .ok, data := [0, 0, 0, 0, 0, 0, 0, 0], clears := false }))) ∧
    (s.mdc.panel = .poweringDown → s.mdc.device = .dozeEntry → exec .panelPowerDownDone s =
      .next (s.withMdc { s.mdc with panel := .off, donePanels := true }).finishDoze)) ∧
  (∀ s : State, s.mdc.inReset = false →
    (∀ n, s.mdc.offHead = some n → 1000000 * s.mdc.delay ≤ n → exec .offHeadTimeout s =
      .next (s.notify (.mode .dozeEntry s.mdc.device .offHead s.ftb.tbc)).enterDoze) ∧
    (∀ high, s.mdc.proximityHigh ≠ high → s.mdc.device = .run → exec (.proximityEdge high) s = .next (s.withMdc
      { s.mdc with
        proximityHigh := high,
        offHead := if s.mdc.autoDoze = true ∧ high ≠ s.mdc.onHigh then some (s.mdc.offHead.getD 0) else none })) ∧
    (∀ high, s.mdc.proximityHigh ≠ high → s.mdc.device = .doze → high = s.mdc.onHigh →
      exec (.proximityEdge high) s =
        .next ((s.withMdc { s.mdc with proximityHigh := high }).beginWake .proximity 0 s.ftb.tbc)) ∧
    (∀ high, s.mdc.proximityHigh ≠ high → s.mdc.device ≠ .run → (s.mdc.device = .doze → high ≠ s.mdc.onHigh) →
      exec (.proximityEdge high) s =
        .next (s.withMdc { s.mdc with proximityHigh := high, offHead := none })) ∧
    exec (.proximityEdge s.mdc.proximityHigh) s = .next s)

/-- A doze entry and a wake, order by order. The entry records the prior state, stops the off-head timer, the scanning
and the audio, orders the Motion Unit and sets the hold, under which an ACTIVE lane with no burst goes IDLE; PLR answers
once its lane is not ACTIVE (R113, R141, R142). The last strand ends it in DOZE with the reply or the MODE notice, and
a strand short of the last changes nothing (R141). A wake event writes an invalid wake source record and queues its
notice; the hold is lifted, an IDLE lane goes WAKING, the Motion Unit is ordered and for a prior state of RUN the panels
power up (R143, R144); its last strand ends it in the prior state with the reply or the MODE notice, and the off-head
timer starts by its conditions (R144, R145). The Motion Unit's part: R74 by its state and R75. The states left in the
notices are log entry 19, and the read abandoned in STARTING is log entry 32. -/
def Obligations.DozeEntryAndWakeRunTheirStrands : Prop :=
  (∀ s : State,
    let all := s.mdc.device = .dozeEntry ∧ s.mdc.donePanels = true ∧ s.mdc.doneAudio = true ∧
      s.mdc.doneMotion = true ∧ s.mdc.doneLane = true
    (¬ all → s.finishDoze = s) ∧
    (∀ tag, all → s.mdc.modeTag = some tag → s.finishDoze =
      (s.withMdc { s.mdc with device := .doze, modeTag := none }).withSmp (s.smp.replied
        { code := 0x22, tag := tag, status := .ok, data := [5, 0, 0, 0, 0, 0, 0, 0], clears := false })) ∧
    (all → s.mdc.modeTag = none → s.finishDoze =
      (s.withMdc { s.mdc with device := .doze }).notify (.mode .doze .dozeEntry .offHead s.ftb.tbc))) ∧
  (∀ (s : State) (p : Prior), s.mdc.prior = some p →
    let all := s.mdc.device = .waking ∧ s.mdc.donePanels = true ∧ s.mdc.doneMotion = true ∧ s.mdc.doneLane = true
    let reached : Device := if p = .run then .run else .standby
    let woken : State := s.withMdc
      { s.mdc with
        device := reached, prior := none, wakeKind := none, modeTag := none,
        offHead := if p = .run ∧ s.mdc.autoDoze = true ∧ s.mdc.proximityHigh ≠ s.mdc.onHigh
          then some (s.mdc.offHead.getD 0) else none }
    (¬ all → s.finishWaking = s) ∧
    (∀ tag, all → s.mdc.modeTag = some tag → s.finishWaking = woken.withSmp (s.smp.replied
      { code := 0x22, tag := tag, status := .ok,
        data := [if p = .run then 2 else 0, 0, 0, 0, 0, 0, 0, 0], clears := false })) ∧
    (all → s.mdc.modeTag = none → s.mdc.wakeKind = some .motionFilter →
      s.finishWaking = woken.notify (.mode reached .waking .motionFilter s.ftb.tbc)) ∧
    (all → s.mdc.modeTag = none → s.mdc.wakeKind = some .proximity →
      s.finishWaking = woken.notify (.mode reached .waking .proximity s.ftb.tbc))) ∧
  (∀ s : State, s.mdc.device = .run ∨ s.mdc.device = .standby →
    let entered : State := (s.withMdc
      { s.mdc with
        device := .dozeEntry, prior := some (if s.mdc.device = .run then .run else .standby), offHead := none,
        donePanels := decide (s.mdc.device = .standby), doneAudio := true, doneMotion := false,
        doneLane := false }).withScn
      { s.scn with
        mode := if s.mdc.device = .run ∧ s.scn.mode = .scanning then .stopPending else s.scn.mode }
    let ordered : State := (entered.withAud
      { (if s.aud.playout = .stopped then s.aud else
        { s.aud with
          playout := .stopped, underrun := false, queue := [],
          ramp := some (s.aud.ramp.getD { base := s.aud.lastFrame, step := 1 }) }) with
        micRunning := false, micDraft := none }).motionDoze
    let p : Plr := { ordered.plr with
      hold := true, lane := if s.plr.lane = .active ∧ s.plr.burst = .none then .idle else s.plr.lane }
    s.enterDoze = if p.lane = .active then ordered.withPlr p
      else ((ordered.withPlr p).withMdc { ordered.mdc with doneLane := true }).finishDoze) ∧
  (∀ (s : State) (kind : WakeKind) (filters : Byte) (tbc : W32), s.mdc.device = .doze →
    let noted : State := (s.withMdc
      { s.mdc with
        wakeRecord := some (s.mdc.wakeRecord.getD { kind := kind, filters := filters, tbc := tbc }) }).notify
          (.wake kind filters tbc s.mdc.wakeRecord.isNone)
    let lifted : State := (noted.withPlr
      { s.plr with
        hold := false, lane := if s.plr.lane = .idle then .waking else s.plr.lane,
        waitLeft := if s.plr.lane = .idle then s.plr.tWait else s.plr.waitLeft }).withMdc
      { noted.mdc with
        device := .waking, wakeKind := some kind, donePanels := decide (s.mdc.prior ≠ some .run),
        doneAudio := false, doneMotion := false,
        doneLane := decide (s.plr.lane ≠ .idle ∧ s.plr.lane ≠ .waking) }
    s.beginWake kind filters tbc = if s.mdc.prior = some .run
      then lifted.motionWake.withMdc { lifted.motionWake.mdc with panel := .powering, panelLeft := 20000 }
      else lifted.motionWake) ∧
  (∀ s : State,
    let answered := ((s.withMdc { s.mdc with doneMotion := true }).finishDoze).finishWaking
    let freed : State :=
      if ∃ x, s.mot.bus = some x ∧ x.kind = .sampleRead then (s.withMot
        { s.mot with bus := s.mot.waiting.head?, waiting := s.mot.waiting.tail, reading := none }).withFtb
          { s.ftb with slot := none }
      else s
    let left (x : Tx) : Tx := { x with wanted := false }
    let wants (m : Mot) (x : Tx) : Mot :=
      { m with
        bus := some (m.bus.getD x), waiting := m.waiting ++ (if m.bus.isSome then [x] else []) }
    let down : Tx := { kind := .powerDown, left := 20, wanted := true, answers := true }
    let watch : Tx := { kind := .rateWatch, left := 100, wanted := true, answers := true, rate := 100 }
    let run : Tx := { kind := .rateRun, left := 100, wanted := true, answers := true, rate := s.mot.rate }
    (s.mot.state = .off → s.motionDoze = answered ∧ s.motionWake = answered) ∧
    (∀ tag clamped, s.mot.state = .starting → s.mot.starting = some (tag, clamped) → s.motionDoze =
      ((s.withSmp (s.smp.replied { code := 0x30, tag := tag, status := .aborted, data := [], clears := false })).withMot
        { wants { freed.mot with bus := freed.mot.bus.map left, waiting := freed.mot.waiting.map left } down with
          state := .off, starting := none, configured := false, firstLeft := none, stallLeft := none }).withFtb
        { s.ftb with armed := false, slot := none, overrun := false }) ∧
    (s.mot.state = .running ∨ s.mot.state = .stalled →
      let reported : State := match s.mot.draft with
        | none => freed
        | some d =>
          if d.samples = [] then freed.withMot { freed.mot with draft := none }
          else (freed.withMot { freed.mot with draft := none }).offerMotion
            { first := d.first, samples := d.samples, acc := s.mot.acc, dropped := 0 }
      let answered : State := match s.mot.cal with
        | none => reported
        | some c => (reported.withMot { reported.mot with cal := none }).withSmp (reported.smp.replied
            { code := 0x35, tag := c.tag, status := .aborted, data := num16 c.count, clears := false })
      s.motionDoze = answered.withMot (wants
        { answered.mot with
          accelRef := if s.mot.lastAccel.isSome then s.mot.lastAccel else s.mot.accelRef, ring := [],
          prevTbc := none, stallLeft := none,
          filters := s.mot.filters.map (fun f => { f with counter := 0 }) } watch)) ∧
    (s.mot.state = .dozeWatch → s.motionWake = s.withMot (wants s.mot run)))

/-- MODE AUTODOZE checks its codes, clamps the delay and writes its fields, and in RUN the off-head timer follows its
three conditions, where its elapsed time is short of the delay (log entry 21 says what comes otherwise). MODE GET,
WAKESOURCE READ and WAKESOURCE CLEAR as their rules say, with the strands of MODE GET as log entry 24 reads them (R146,
R147). -/
def Obligations.AutodozeAndTheWakeRecord : Prop :=
  ∀ (s : State) (tag : Byte),
    let bit (b : Bool) (v : Byte) : Byte := if b then v else 0
    (∀ f : AutodozeFields, s.Runs (.modeAutodoze tag f) →
      let code (v : Option Byte) : Bool := v.any (fun x => x ≠ 0 && x ≠ 1)
      (f.stray = true ∨ code f.autoDoze = true ∨ code f.polarity = true →
        exec (.modeAutodoze tag f) s = .next (s.answering (.modeAutodoze tag f) .badValue [])) ∧
      (f.stray = false → code f.autoDoze = false → code f.polarity = false → s.mdc.device ≠ .run →
        exec (.modeAutodoze tag f) s = .next (((s.claiming (.modeAutodoze tag f)).withMdc
          { s.mdc with
            autoDoze := (f.autoDoze.map (fun v => decide (v = 1))).getD s.mdc.autoDoze,
            delay := (f.delay.map (fun v => max 1 (min 60 v.toNat))).getD s.mdc.delay,
            onHigh := (f.polarity.map (fun v => decide (v = 0))).getD s.mdc.onHigh, offHead := none }).replying
              (.modeAutodoze tag f)
              (if f.delay.any (fun v => v.toNat < 1 || 60 < v.toNat) then .okClamped else .ok) [])) ∧
      (f.stray = false → code f.autoDoze = false → code f.polarity = false → s.mdc.device = .run →
        let enabled := (f.autoDoze.map (fun v => decide (v = 1))).getD s.mdc.autoDoze
        let onHigh := (f.polarity.map (fun v => decide (v = 0))).getD s.mdc.onHigh
        let delay := (f.delay.map (fun v => max 1 (min 60 v.toNat))).getD s.mdc.delay
        s.mdc.offHead.getD 0 < 1000000 * delay →
        exec (.modeAutodoze tag f) s = .next (((s.claiming (.modeAutodoze tag f)).withMdc
          { s.mdc with
            autoDoze := enabled, delay := delay, onHigh := onHigh,
            offHead := if enabled = true ∧ s.mdc.proximityHigh ≠ onHigh then some (s.mdc.offHead.getD 0)
              else none }).replying (.modeAutodoze tag f)
                (if f.delay.any (fun v => v.toNat < 1 || 60 < v.toNat) then .okClamped else .ok) []))) ∧
    (s.Runs (.modeGet tag) →
      let m := s.mdc
      let moving := m.device = .starting ∨ m.device = .stopping ∨ m.device = .dozeEntry ∨ m.device = .waking
      exec (.modeGet tag) s = .next (s.answering (.modeGet tag) .ok
        ([bit m.prior.isSome 1 ||| bit m.offHead.isSome 2 ||| (if moving then 4 else 0), m.device.code, m.panel.code,
          (if m.prior = some .run then 2 else 0),
          (if moving then bit m.donePanels 1 ||| bit m.doneAudio 2 ||| bit m.doneMotion 4 ||| bit m.doneLane 8 else 0),
          bit m.autoDoze 1] ++ num8 m.delay ++ [bit (!m.onHigh) 1, if m.proximityHigh = m.onHigh then 1 else 0] ++
          num32 (m.offHead.getD 0) ++ [bit s.plr.hold 1]))) ∧
    (s.Runs (.wakesourceRead tag) → exec (.wakesourceRead tag) s = .next (s.answering (.wakesourceRead tag) .ok
      (match s.mdc.wakeRecord with
      | none => [0, 0, 0, 0, 0, 0, 0]
      | some r => [1, r.kind.code, r.filters] ++ le32 r.tbc))) ∧
    (s.Runs (.wakesourceClear tag) → exec (.wakesourceClear tag) s =
      .next (((s.claiming (.wakesourceClear tag)).withMdc { s.mdc with wakeRecord := none }).replying
        (.wakesourceClear tag) .ok []))

/-! ## Sideband reads -/

/-- STATUS READ and IDENTIFY change nothing but their reply (R159, R161). The counts of entries are those of the
execution event, the command's own entry among the RESERVED (the model's reading, log entry 18), and the part identity
and the silicon revision are free values (log entry 3). MONITOR GET changes nothing but its reply, which carries what
R125 names, in the layout of section 10.6. -/
def Obligations.StatusIdentifyAndMonitorReads : Prop :=
  (∀ (s : State) (tag : Byte),
    (s.Runs (.statusRead tag) →
      let k := s.smp.counters
      exec (.statusRead tag) s = .next (s.answering (.statusRead tag) .ok
        (num16 k.badRecords ++ num16 k.unheard ++ num16 k.noticesLost ++ num16 k.malformed ++ num16 k.sliceCrc ++
          num16 k.audioCrc ++ num16 k.lostToIdle ++ num16 k.noCell ++ num16 k.superseded ++ num16 k.saturation ++
          num16 k.audioOverflow ++ num16 k.audioStopped ++ num16 k.underrun ++ num16 k.roundsSkipped ++
          le32 s.ftb.tbc ++ num8 s.smp.inbound.length ++ num8 (s.smp.claimed (.statusRead tag)).reserved ++
          num8 s.smp.held.length ++ num8 s.smp.notices.length ++
          [if s.smp.subtraction.isSome then (1 : Byte) else 0]))) ∧
    (s.Runs (.identify tag) → exec (.identify tag) s = .next (s.answering (.identify tag) .ok
      (le16 Config.partIdentity ++ [Config.siliconRevision] ++
        [match s.mdc.resetCause with
          | .powerOn => (0 : Byte)
          | .supplyDip => 1
          | .resetCommand => 2
          | .sidebandLoss => 3] ++ le32 s.ftb.tbc ++ [s.mdc.device.code])))) ∧
  (∀ (s : State) (tag : Byte), s.Runs (.monitorGet tag) →
    let m := s.mon
    let bit (b : Bool) (v : Byte) : Byte := if b then v else 0
    let entry (x : Entry) : List Byte :=
      [bit x.overwritten 1 ||| bit x.tbc.isSome 2 ||| bit x.least.isSome 4 ||| bit x.unreported 8] ++ int16 x.value ++
        le32 (x.tbc.getD 0) ++ int16 (x.least.getD 0) ++ int16 (x.greatest.getD 0)
    let limits (x : WatchLimits) : List Byte :=
      [bit x.low.isSome 1 ||| bit (x.low.any (·.armed)) 2 ||| bit x.high.isSome 4 ||| bit (x.high.any (·.armed)) 8] ++
        int16 ((x.low.map (·.value)).getD 0) ++ int16 ((x.high.map (·.value)).getD 0)
    exec (.monitorGet tag) s = .next (s.answering (.monitorGet tag) .ok
      ((match m.round with
        | none => [0, 0]
        | some r => [if r.kind = .frame then 1 else 2] ++ num8 r.input) ++ [bit m.pendingFrame 1] ++
        (match m.waiting with
        | none => [0, 0, 0]
        | some w => [if w.kind = .oneShot then 1 else 2] ++ num8 w.first ++ num8 w.last) ++
        [bit m.series 1, m.mask] ++ num16 m.divider ++ num8 m.divCount ++ [bit s.smp.monSlot.isSome 1] ++
        m.entries.flatMap entry ++ m.limits.flatMap limits)))

end Claims
end

