-- ==== Sys2Proof/Laws/Fields.lean ====
section
/-! SUPPORT. What the byte layouts of chapter 10 read back: the fields, the presence bytes and the optional fields they
mark. -/

namespace Sys2Proof.Machine

/-! ## Fields -/

@[simp] theorem length_le16 (v : W16) : (le16 v).length = 2 := rfl
@[simp] theorem length_le32 (v : W32) : (le32 v).length = 4 := rfl
@[simp] theorem length_num8 (n : Nat) : (num8 n).length = 1 := rfl
@[simp] theorem length_num16 (n : Nat) : (num16 n).length = 2 := rfl

/-- A 16-bit field reads back. -/
@[simp] theorem read16_le16 (v : W16) (rest : List Byte) : read16 (le16 v ++ rest) = v := by
  simp only [le16, read16, List.cons_append, List.nil_append, List.getD_cons_succ, List.getD_cons_zero]
  apply BitVec.eq_of_getLsbD_eq
  intro i hi
  rw [BitVec.getLsbD_append]
  by_cases h : i < 8
  · simp [h]
  · have : 8 + (i - 8) = i := by omega
    simp only [h, BitVec.getLsbD_extractLsb', this]
    simp only [show i - 8 < 8 by omega, decide_true, Bool.true_and, if_false]

/-! ## Presence bytes -/

/-- A bit of a byte formed from its bits. -/
theorem getLsbD_packBits (bs : List Bool) (i : Nat) (hi : i < 8) : (packBits bs).getLsbD i = bs.getD i false := by
  induction bs generalizing i with
  | nil => simp [packBits]
  | cons b bs ih =>
    rw [packBits, BitVec.getLsbD_or, BitVec.getLsbD_shiftLeft]
    cases i with
    | zero => cases b <;> simp
    | succ n =>
      have h := ih n (by omega)
      simp only [List.getD_cons_succ, ← h]
      cases b <;> simp [hi]

/-! ## Flag bytes, bit by bit -/

theorem packBits_2 (a b : Bool) : packBits [a, b] =
    (if a then 1 else 0) ||| (if b then 2 else 0) := by
  cases a <;> cases b <;> rfl

theorem packBits_3 (a b c : Bool) : packBits [a, b, c] =
    (if a then 1 else 0) ||| (if b then 2 else 0) ||| (if c then 4 else 0) := by
  cases a <;> cases b <;> cases c <;> rfl

theorem packBits_4 (a b c d : Bool) : packBits [a, b, c, d] =
    (if a then 1 else 0) ||| (if b then 2 else 0) ||| (if c then 4 else 0) ||| (if d then 8 else 0) := by
  cases a <;> cases b <;> cases c <;> cases d <;> rfl

theorem packBits_5 (a b c d e : Bool) : packBits [a, b, c, d, e] =
    (if a then 1 else 0) ||| (if b then 2 else 0) ||| (if c then 4 else 0) ||| (if d then 8 else 0) ||| (if e then 16 else 0) := by
  cases a <;> cases b <;> cases c <;> cases d <;> cases e <;> rfl

theorem packBits_6 (a b c d e f : Bool) : packBits [a, b, c, d, e, f] =
    (if a then 1 else 0) ||| (if b then 2 else 0) ||| (if c then 4 else 0) ||| (if d then 8 else 0) ||| (if e then 16 else 0) ||| (if f then 32 else 0) := by
  cases a <;> cases b <;> cases c <;> cases d <;> cases e <;> cases f <;> rfl

/-! ## Optional fields -/

/-- The bytes of the fields a presence byte marks, when it has a bit for each. -/
theorem markedLength_packBits (bs : List Bool) (ws : List Nat) (h : bs.length ≤ 8) (hw : ws.length ≤ bs.length) :
    markedLength (packBits bs) ws = (ws.zipIdx.map (fun x => if bs.getD x.2 false then x.1 else 0)).sum := by
  unfold markedLength
  congr 1
  apply List.map_congr_left
  intro x hx
  have := List.snd_lt_of_mem_zipIdx hx
  rw [getLsbD_packBits _ _ (by omega)]

/-- The bytes sent for an optional 16-bit field. -/
@[simp] theorem length_sent16 (v : Option W16) : (sent16 v).length = if v.isSome then 2 else 0 := by cases v <;> rfl
/-- The bytes sent for an optional byte. -/
@[simp] theorem length_sent8 (v : Option Byte) : (sent8 v).length = if v.isSome then 1 else 0 := by cases v <;> rfl

/-- The bytes of the items of MONITOR SET. -/
theorem length_itemBytes (xs : List LimitItem) : (xs.flatMap itemBytes).length = 6 * xs.length := by
  induction xs with
  | nil => rfl
  | cons x xs ih => rw [List.flatMap_cons, List.length_append, ih]; simp [itemBytes]; omega

end Sys2Proof.Machine
end

