-- ==== Sys2Proof/Laws/State.lean ====
section
/-! SUPPORT. What each update of a block leaves in each field of the state, and what the pair of the eyes gives back. -/

namespace Sys2Proof.Machine

variable (s : State)

@[simp] theorem withFtb_ftb (x : Ftb) : (s.withFtb x).ftb = x := rfl
@[simp] theorem withFtb_plr (x : Ftb) : (s.withFtb x).plr = s.plr := rfl
@[simp] theorem withFtb_slm (x : Ftb) : (s.withFtb x).slm = s.slm := rfl
@[simp] theorem withFtb_scn (x : Ftb) : (s.withFtb x).scn = s.scn := rfl
@[simp] theorem withFtb_mot (x : Ftb) : (s.withFtb x).mot = s.mot := rfl
@[simp] theorem withFtb_aud (x : Ftb) : (s.withFtb x).aud = s.aud := rfl
@[simp] theorem withFtb_mon (x : Ftb) : (s.withFtb x).mon = s.mon := rfl
@[simp] theorem withFtb_gov (x : Ftb) : (s.withFtb x).gov = s.gov := rfl
@[simp] theorem withFtb_mdc (x : Ftb) : (s.withFtb x).mdc = s.mdc := rfl
@[simp] theorem withFtb_smp (x : Ftb) : (s.withFtb x).smp = s.smp := rfl
@[simp] theorem withFtb_pending (x : Ftb) : (s.withFtb x).pending = s.pending := rfl

@[simp] theorem withPlr_ftb (x : Plr) : (s.withPlr x).ftb = s.ftb := rfl
@[simp] theorem withPlr_plr (x : Plr) : (s.withPlr x).plr = x := rfl
@[simp] theorem withPlr_slm (x : Plr) : (s.withPlr x).slm = s.slm := rfl
@[simp] theorem withPlr_scn (x : Plr) : (s.withPlr x).scn = s.scn := rfl
@[simp] theorem withPlr_mot (x : Plr) : (s.withPlr x).mot = s.mot := rfl
@[simp] theorem withPlr_aud (x : Plr) : (s.withPlr x).aud = s.aud := rfl
@[simp] theorem withPlr_mon (x : Plr) : (s.withPlr x).mon = s.mon := rfl
@[simp] theorem withPlr_gov (x : Plr) : (s.withPlr x).gov = s.gov := rfl
@[simp] theorem withPlr_mdc (x : Plr) : (s.withPlr x).mdc = s.mdc := rfl
@[simp] theorem withPlr_smp (x : Plr) : (s.withPlr x).smp = s.smp := rfl
@[simp] theorem withPlr_pending (x : Plr) : (s.withPlr x).pending = s.pending := rfl

@[simp] theorem withSlm_ftb (x : Slm) : (s.withSlm x).ftb = s.ftb := rfl
@[simp] theorem withSlm_plr (x : Slm) : (s.withSlm x).plr = s.plr := rfl
@[simp] theorem withSlm_slm (x : Slm) : (s.withSlm x).slm = x := rfl
@[simp] theorem withSlm_scn (x : Slm) : (s.withSlm x).scn = s.scn := rfl
@[simp] theorem withSlm_mot (x : Slm) : (s.withSlm x).mot = s.mot := rfl
@[simp] theorem withSlm_aud (x : Slm) : (s.withSlm x).aud = s.aud := rfl
@[simp] theorem withSlm_mon (x : Slm) : (s.withSlm x).mon = s.mon := rfl
@[simp] theorem withSlm_gov (x : Slm) : (s.withSlm x).gov = s.gov := rfl
@[simp] theorem withSlm_mdc (x : Slm) : (s.withSlm x).mdc = s.mdc := rfl
@[simp] theorem withSlm_smp (x : Slm) : (s.withSlm x).smp = s.smp := rfl
@[simp] theorem withSlm_pending (x : Slm) : (s.withSlm x).pending = s.pending := rfl

@[simp] theorem withScn_ftb (x : Scn) : (s.withScn x).ftb = s.ftb := rfl
@[simp] theorem withScn_plr (x : Scn) : (s.withScn x).plr = s.plr := rfl
@[simp] theorem withScn_slm (x : Scn) : (s.withScn x).slm = s.slm := rfl
@[simp] theorem withScn_scn (x : Scn) : (s.withScn x).scn = x := rfl
@[simp] theorem withScn_mot (x : Scn) : (s.withScn x).mot = s.mot := rfl
@[simp] theorem withScn_aud (x : Scn) : (s.withScn x).aud = s.aud := rfl
@[simp] theorem withScn_mon (x : Scn) : (s.withScn x).mon = s.mon := rfl
@[simp] theorem withScn_gov (x : Scn) : (s.withScn x).gov = s.gov := rfl
@[simp] theorem withScn_mdc (x : Scn) : (s.withScn x).mdc = s.mdc := rfl
@[simp] theorem withScn_smp (x : Scn) : (s.withScn x).smp = s.smp := rfl
@[simp] theorem withScn_pending (x : Scn) : (s.withScn x).pending = s.pending := rfl

@[simp] theorem withMot_ftb (x : Mot) : (s.withMot x).ftb = s.ftb := rfl
@[simp] theorem withMot_plr (x : Mot) : (s.withMot x).plr = s.plr := rfl
@[simp] theorem withMot_slm (x : Mot) : (s.withMot x).slm = s.slm := rfl
@[simp] theorem withMot_scn (x : Mot) : (s.withMot x).scn = s.scn := rfl
@[simp] theorem withMot_mot (x : Mot) : (s.withMot x).mot = x := rfl
@[simp] theorem withMot_aud (x : Mot) : (s.withMot x).aud = s.aud := rfl
@[simp] theorem withMot_mon (x : Mot) : (s.withMot x).mon = s.mon := rfl
@[simp] theorem withMot_gov (x : Mot) : (s.withMot x).gov = s.gov := rfl
@[simp] theorem withMot_mdc (x : Mot) : (s.withMot x).mdc = s.mdc := rfl
@[simp] theorem withMot_smp (x : Mot) : (s.withMot x).smp = s.smp := rfl
@[simp] theorem withMot_pending (x : Mot) : (s.withMot x).pending = s.pending := rfl

@[simp] theorem withAud_ftb (x : Aud) : (s.withAud x).ftb = s.ftb := rfl
@[simp] theorem withAud_plr (x : Aud) : (s.withAud x).plr = s.plr := rfl
@[simp] theorem withAud_slm (x : Aud) : (s.withAud x).slm = s.slm := rfl
@[simp] theorem withAud_scn (x : Aud) : (s.withAud x).scn = s.scn := rfl
@[simp] theorem withAud_mot (x : Aud) : (s.withAud x).mot = s.mot := rfl
@[simp] theorem withAud_aud (x : Aud) : (s.withAud x).aud = x := rfl
@[simp] theorem withAud_mon (x : Aud) : (s.withAud x).mon = s.mon := rfl
@[simp] theorem withAud_gov (x : Aud) : (s.withAud x).gov = s.gov := rfl
@[simp] theorem withAud_mdc (x : Aud) : (s.withAud x).mdc = s.mdc := rfl
@[simp] theorem withAud_smp (x : Aud) : (s.withAud x).smp = s.smp := rfl
@[simp] theorem withAud_pending (x : Aud) : (s.withAud x).pending = s.pending := rfl

@[simp] theorem withMon_ftb (x : Mon) : (s.withMon x).ftb = s.ftb := rfl
@[simp] theorem withMon_plr (x : Mon) : (s.withMon x).plr = s.plr := rfl
@[simp] theorem withMon_slm (x : Mon) : (s.withMon x).slm = s.slm := rfl
@[simp] theorem withMon_scn (x : Mon) : (s.withMon x).scn = s.scn := rfl
@[simp] theorem withMon_mot (x : Mon) : (s.withMon x).mot = s.mot := rfl
@[simp] theorem withMon_aud (x : Mon) : (s.withMon x).aud = s.aud := rfl
@[simp] theorem withMon_mon (x : Mon) : (s.withMon x).mon = x := rfl
@[simp] theorem withMon_gov (x : Mon) : (s.withMon x).gov = s.gov := rfl
@[simp] theorem withMon_mdc (x : Mon) : (s.withMon x).mdc = s.mdc := rfl
@[simp] theorem withMon_smp (x : Mon) : (s.withMon x).smp = s.smp := rfl
@[simp] theorem withMon_pending (x : Mon) : (s.withMon x).pending = s.pending := rfl

@[simp] theorem withGov_ftb (x : Gov) : (s.withGov x).ftb = s.ftb := rfl
@[simp] theorem withGov_plr (x : Gov) : (s.withGov x).plr = s.plr := rfl
@[simp] theorem withGov_slm (x : Gov) : (s.withGov x).slm = s.slm := rfl
@[simp] theorem withGov_scn (x : Gov) : (s.withGov x).scn = s.scn := rfl
@[simp] theorem withGov_mot (x : Gov) : (s.withGov x).mot = s.mot := rfl
@[simp] theorem withGov_aud (x : Gov) : (s.withGov x).aud = s.aud := rfl
@[simp] theorem withGov_mon (x : Gov) : (s.withGov x).mon = s.mon := rfl
@[simp] theorem withGov_gov (x : Gov) : (s.withGov x).gov = x := rfl
@[simp] theorem withGov_mdc (x : Gov) : (s.withGov x).mdc = s.mdc := rfl
@[simp] theorem withGov_smp (x : Gov) : (s.withGov x).smp = s.smp := rfl
@[simp] theorem withGov_pending (x : Gov) : (s.withGov x).pending = s.pending := rfl

@[simp] theorem withMdc_ftb (x : Mdc) : (s.withMdc x).ftb = s.ftb := rfl
@[simp] theorem withMdc_plr (x : Mdc) : (s.withMdc x).plr = s.plr := rfl
@[simp] theorem withMdc_slm (x : Mdc) : (s.withMdc x).slm = s.slm := rfl
@[simp] theorem withMdc_scn (x : Mdc) : (s.withMdc x).scn = s.scn := rfl
@[simp] theorem withMdc_mot (x : Mdc) : (s.withMdc x).mot = s.mot := rfl
@[simp] theorem withMdc_aud (x : Mdc) : (s.withMdc x).aud = s.aud := rfl
@[simp] theorem withMdc_mon (x : Mdc) : (s.withMdc x).mon = s.mon := rfl
@[simp] theorem withMdc_gov (x : Mdc) : (s.withMdc x).gov = s.gov := rfl
@[simp] theorem withMdc_mdc (x : Mdc) : (s.withMdc x).mdc = x := rfl
@[simp] theorem withMdc_smp (x : Mdc) : (s.withMdc x).smp = s.smp := rfl
@[simp] theorem withMdc_pending (x : Mdc) : (s.withMdc x).pending = s.pending := rfl

@[simp] theorem withSmp_ftb (x : Smp) : (s.withSmp x).ftb = s.ftb := rfl
@[simp] theorem withSmp_plr (x : Smp) : (s.withSmp x).plr = s.plr := rfl
@[simp] theorem withSmp_slm (x : Smp) : (s.withSmp x).slm = s.slm := rfl
@[simp] theorem withSmp_scn (x : Smp) : (s.withSmp x).scn = s.scn := rfl
@[simp] theorem withSmp_mot (x : Smp) : (s.withSmp x).mot = s.mot := rfl
@[simp] theorem withSmp_aud (x : Smp) : (s.withSmp x).aud = s.aud := rfl
@[simp] theorem withSmp_mon (x : Smp) : (s.withSmp x).mon = s.mon := rfl
@[simp] theorem withSmp_gov (x : Smp) : (s.withSmp x).gov = s.gov := rfl
@[simp] theorem withSmp_mdc (x : Smp) : (s.withSmp x).mdc = s.mdc := rfl
@[simp] theorem withSmp_smp (x : Smp) : (s.withSmp x).smp = x := rfl
@[simp] theorem withSmp_pending (x : Smp) : (s.withSmp x).pending = s.pending := rfl

@[simp] theorem withPending_ftb (q : List Instr) : (s.withPending q).ftb = s.ftb := rfl
@[simp] theorem withPending_plr (q : List Instr) : (s.withPending q).plr = s.plr := rfl
@[simp] theorem withPending_slm (q : List Instr) : (s.withPending q).slm = s.slm := rfl
@[simp] theorem withPending_scn (q : List Instr) : (s.withPending q).scn = s.scn := rfl
@[simp] theorem withPending_mot (q : List Instr) : (s.withPending q).mot = s.mot := rfl
@[simp] theorem withPending_aud (q : List Instr) : (s.withPending q).aud = s.aud := rfl
@[simp] theorem withPending_mon (q : List Instr) : (s.withPending q).mon = s.mon := rfl
@[simp] theorem withPending_gov (q : List Instr) : (s.withPending q).gov = s.gov := rfl
@[simp] theorem withPending_mdc (q : List Instr) : (s.withPending q).mdc = s.mdc := rfl
@[simp] theorem withPending_smp (q : List Instr) : (s.withPending q).smp = s.smp := rfl
@[simp] theorem withPending_pending (q : List Instr) : (s.withPending q).pending = q := rfl

@[simp] theorem withFtb_withFtb (x y : Ftb) : (s.withFtb x).withFtb y = s.withFtb y := rfl
@[simp] theorem withPlr_withPlr (x y : Plr) : (s.withPlr x).withPlr y = s.withPlr y := rfl
@[simp] theorem withSlm_withSlm (x y : Slm) : (s.withSlm x).withSlm y = s.withSlm y := rfl
@[simp] theorem withScn_withScn (x y : Scn) : (s.withScn x).withScn y = s.withScn y := rfl
@[simp] theorem withMot_withMot (x y : Mot) : (s.withMot x).withMot y = s.withMot y := rfl
@[simp] theorem withAud_withAud (x y : Aud) : (s.withAud x).withAud y = s.withAud y := rfl
@[simp] theorem withMon_withMon (x y : Mon) : (s.withMon x).withMon y = s.withMon y := rfl
@[simp] theorem withGov_withGov (x y : Gov) : (s.withGov x).withGov y = s.withGov y := rfl
@[simp] theorem withMdc_withMdc (x y : Mdc) : (s.withMdc x).withMdc y = s.withMdc y := rfl
@[simp] theorem withSmp_withSmp (x y : Smp) : (s.withSmp x).withSmp y = s.withSmp y := rfl
@[simp] theorem withPending_withPending (x y : List Instr) : (s.withPending x).withPending y = s.withPending y := rfl

@[simp] theorem withFtb_self : s.withFtb s.ftb = s := rfl
@[simp] theorem withPlr_self : s.withPlr s.plr = s := rfl
@[simp] theorem withSlm_self : s.withSlm s.slm = s := rfl
@[simp] theorem withScn_self : s.withScn s.scn = s := rfl
@[simp] theorem withMot_self : s.withMot s.mot = s := rfl
@[simp] theorem withAud_self : s.withAud s.aud = s := rfl
@[simp] theorem withMon_self : s.withMon s.mon = s := rfl
@[simp] theorem withGov_self : s.withGov s.gov = s := rfl
@[simp] theorem withMdc_self : s.withMdc s.mdc = s := rfl
@[simp] theorem withSmp_self : s.withSmp s.smp = s := rfl
@[simp] theorem withPending_self : s.withPending s.pending = s := rfl

/-! ## The pair of the eyes -/

@[simp] theorem Eyes.at_both {α : Type} (x : α) (e : Eye) : (Eyes.both x).at e = x := by cases e <;> rfl

@[simp] theorem Eyes.at_put_same {α : Type} (v : Eyes α) (e : Eye) (x : α) : (v.put e x).at e = x := by
  cases e <;> rfl

theorem Eyes.at_put_other {α : Type} (v : Eyes α) {e e' : Eye} (x : α) (h : e' ≠ e) : (v.put e x).at e' = v.at e' := by
  cases e <;> cases e' <;> first | rfl | exact absurd rfl h

end Sys2Proof.Machine
end

