-- ==== Sys2Proof/Laws/Port.lean ====
section
/-! SUPPORT. What the shared operations of Machine/Ops.lean can do: the counters, the arbiter, the offers, the replies,
and the two ways in which a command takes effect. -/

namespace Sys2Proof.Machine

/-! ## Counters -/

@[simp] theorem Counters.get_put (c : Counters) (k : Counter) (n : Nat) : (c.put k n).get k = n := by
  cases k <;> rfl

theorem Counters.get_put_other (c : Counters) {k k' : Counter} (n : Nat) (h : k' ≠ k) :
    (c.put k n).get k' = c.get k' := by
  cases k <;> cases k' <;> first | rfl | exact absurd rfl h

/-- Counting changes one counter, and saturates. -/
theorem Counters.get_add (c : Counters) (k k' : Counter) (n : Nat) :
    (c.add k n).get k' = if k' = k then min 65535 (c.get k + n) else c.get k' := by
  by_cases h : k' = k
  · subst h; simp [Counters.add, sat16]
  · simp [Counters.add, h, Counters.get_put_other _ _ h]

/-- Counting changes the counters of the port and nothing else. -/
theorem count_eq (s : State) (k : Counter) (n : Nat) :
    s.count k n = s.withSmp { s.smp with counters := s.smp.counters.add k n } := rfl

/-- An occurrence that is noted changes the counters and the report under assembly, and nothing else. -/
theorem note_eq (s : State) (k : Counter) :
    s.note k = (s.withSmp { s.smp with counters := s.smp.counters.add k 1 }).withScn
      { s.scn with report := s.scn.report.map (fun d => d.add k 1) } := rfl

/-! ## The arbiter -/

/-- With a record being sent the arbiter does nothing (R158). -/
theorem arbitrate_busy {s : State} (h : s.smp.sending.isSome) : s.arbitrate = s := by simp [State.arbitrate, h]

/-- What the arbiter can change: the sources and the record being sent. -/
theorem arbitrate_frame (s : State) :
    s.arbitrate.ftb = s.ftb ∧ s.arbitrate.plr = s.plr ∧ s.arbitrate.slm = s.slm ∧ s.arbitrate.scn = s.scn ∧
      s.arbitrate.mon = s.mon ∧ s.arbitrate.gov = s.gov ∧ s.arbitrate.mdc = s.mdc ∧ s.arbitrate.pending = s.pending ∧
      (∃ q, s.arbitrate.mot = { s.mot with queue := q }) ∧ (∃ u, s.arbitrate.aud = { s.aud with uplink := u }) ∧
      (∃ h n f m u, s.arbitrate.smp =
        { s.smp with held := h, notices := n, frameSlot := f, monSlot := m, sending := u }) := by
  unfold State.arbitrate
  repeat' split
  all_goals refine ⟨rfl, rfl, rfl, rfl, rfl, rfl, rfl, rfl, ⟨_, rfl⟩, ⟨_, rfl⟩, ⟨_, _, _, _, _, rfl⟩⟩

@[simp] theorem arbitrate_ftb (s : State) : s.arbitrate.ftb = s.ftb := (arbitrate_frame s).1
@[simp] theorem arbitrate_plr (s : State) : s.arbitrate.plr = s.plr := (arbitrate_frame s).2.1
@[simp] theorem arbitrate_slm (s : State) : s.arbitrate.slm = s.slm := (arbitrate_frame s).2.2.1
@[simp] theorem arbitrate_scn (s : State) : s.arbitrate.scn = s.scn := (arbitrate_frame s).2.2.2.1
@[simp] theorem arbitrate_mon (s : State) : s.arbitrate.mon = s.mon := (arbitrate_frame s).2.2.2.2.1
@[simp] theorem arbitrate_gov (s : State) : s.arbitrate.gov = s.gov := (arbitrate_frame s).2.2.2.2.2.1
@[simp] theorem arbitrate_mdc (s : State) : s.arbitrate.mdc = s.mdc := (arbitrate_frame s).2.2.2.2.2.2.1
@[simp] theorem arbitrate_pending (s : State) : s.arbitrate.pending = s.pending := (arbitrate_frame s).2.2.2.2.2.2.2.1

/-- The arbiter leaves no source with a record while the lane is free (R158). -/
theorem arbitrate_sound (s : State) : s.arbitrate.smp.sending = none → s.arbitrate.hasRecord = false := by
  cases hs : s.smp.sending with
  | some u => simp [State.arbitrate, hs]
  | none =>
    simp only [State.arbitrate, hs, Option.isSome_none, Bool.false_eq_true, if_false]
    repeat' split
    all_goals simp_all [State.hasRecord]

/-! ## The arbiter and the offers leave the other blocks to themselves -/

theorem arbitrate_withFtb (s : State) (x : Ftb) : (s.withFtb x).arbitrate = s.arbitrate.withFtb x := by
  simp only [State.arbitrate]; repeat' split
  all_goals simp_all [State.withFtb, State.withSmp, State.withMot, State.withAud]

theorem arbitrate_withPlr (s : State) (x : Plr) : (s.withPlr x).arbitrate = s.arbitrate.withPlr x := by
  simp only [State.arbitrate]; repeat' split
  all_goals simp_all [State.withPlr, State.withSmp, State.withMot, State.withAud]

theorem arbitrate_withSlm (s : State) (x : Slm) : (s.withSlm x).arbitrate = s.arbitrate.withSlm x := by
  simp only [State.arbitrate]; repeat' split
  all_goals simp_all [State.withSlm, State.withSmp, State.withMot, State.withAud]

theorem arbitrate_withScn (s : State) (x : Scn) : (s.withScn x).arbitrate = s.arbitrate.withScn x := by
  simp only [State.arbitrate]; repeat' split
  all_goals simp_all [State.withScn, State.withSmp, State.withMot, State.withAud]

theorem arbitrate_withMon (s : State) (x : Mon) : (s.withMon x).arbitrate = s.arbitrate.withMon x := by
  simp only [State.arbitrate]; repeat' split
  all_goals simp_all [State.withMon, State.withSmp, State.withMot, State.withAud]

theorem arbitrate_withGov (s : State) (x : Gov) : (s.withGov x).arbitrate = s.arbitrate.withGov x := by
  simp only [State.arbitrate]; repeat' split
  all_goals simp_all [State.withGov, State.withSmp, State.withMot, State.withAud]

theorem arbitrate_withMdc (s : State) (x : Mdc) : (s.withMdc x).arbitrate = s.arbitrate.withMdc x := by
  simp only [State.arbitrate]; repeat' split
  all_goals simp_all [State.withMdc, State.withSmp, State.withMot, State.withAud]

theorem notify_withFtb (s : State) (x : Ftb) (n : Notice) : (s.withFtb x).notify n = (s.notify n).withFtb x := by
  by_cases h : s.smp.notices.length < 8
  · have h' : (s.withFtb x).smp.notices.length < 8 := h
    rw [State.notify, if_pos h', State.notify, if_pos h]
    exact arbitrate_withFtb (s.withSmp _) x
  · have h' : ¬ (s.withFtb x).smp.notices.length < 8 := h
    rw [State.notify, if_neg h', State.notify, if_neg h]
    rfl

theorem notify_withPlr (s : State) (x : Plr) (n : Notice) : (s.withPlr x).notify n = (s.notify n).withPlr x := by
  by_cases h : s.smp.notices.length < 8
  · have h' : (s.withPlr x).smp.notices.length < 8 := h
    rw [State.notify, if_pos h', State.notify, if_pos h]
    exact arbitrate_withPlr (s.withSmp _) x
  · have h' : ¬ (s.withPlr x).smp.notices.length < 8 := h
    rw [State.notify, if_neg h', State.notify, if_neg h]
    rfl

theorem notify_withSlm (s : State) (x : Slm) (n : Notice) : (s.withSlm x).notify n = (s.notify n).withSlm x := by
  by_cases h : s.smp.notices.length < 8
  · have h' : (s.withSlm x).smp.notices.length < 8 := h
    rw [State.notify, if_pos h', State.notify, if_pos h]
    exact arbitrate_withSlm (s.withSmp _) x
  · have h' : ¬ (s.withSlm x).smp.notices.length < 8 := h
    rw [State.notify, if_neg h', State.notify, if_neg h]
    rfl

theorem notify_withScn (s : State) (x : Scn) (n : Notice) : (s.withScn x).notify n = (s.notify n).withScn x := by
  by_cases h : s.smp.notices.length < 8
  · have h' : (s.withScn x).smp.notices.length < 8 := h
    rw [State.notify, if_pos h', State.notify, if_pos h]
    exact arbitrate_withScn (s.withSmp _) x
  · have h' : ¬ (s.withScn x).smp.notices.length < 8 := h
    rw [State.notify, if_neg h', State.notify, if_neg h]
    rfl

theorem notify_withMon (s : State) (x : Mon) (n : Notice) : (s.withMon x).notify n = (s.notify n).withMon x := by
  by_cases h : s.smp.notices.length < 8
  · have h' : (s.withMon x).smp.notices.length < 8 := h
    rw [State.notify, if_pos h', State.notify, if_pos h]
    exact arbitrate_withMon (s.withSmp _) x
  · have h' : ¬ (s.withMon x).smp.notices.length < 8 := h
    rw [State.notify, if_neg h', State.notify, if_neg h]
    rfl

theorem notify_withGov (s : State) (x : Gov) (n : Notice) : (s.withGov x).notify n = (s.notify n).withGov x := by
  by_cases h : s.smp.notices.length < 8
  · have h' : (s.withGov x).smp.notices.length < 8 := h
    rw [State.notify, if_pos h', State.notify, if_pos h]
    exact arbitrate_withGov (s.withSmp _) x
  · have h' : ¬ (s.withGov x).smp.notices.length < 8 := h
    rw [State.notify, if_neg h', State.notify, if_neg h]
    rfl

theorem notify_withMdc (s : State) (x : Mdc) (n : Notice) : (s.withMdc x).notify n = (s.notify n).withMdc x := by
  by_cases h : s.smp.notices.length < 8
  · have h' : (s.withMdc x).smp.notices.length < 8 := h
    rw [State.notify, if_pos h', State.notify, if_pos h]
    exact arbitrate_withMdc (s.withSmp _) x
  · have h' : ¬ (s.withMdc x).smp.notices.length < 8 := h
    rw [State.notify, if_neg h', State.notify, if_neg h]
    rfl

theorem offerFrame_withFtb (s : State) (x : Ftb) (r : FrameReport) :
    (s.withFtb x).offerFrame r = (s.offerFrame r).withFtb x := arbitrate_withFtb (s.withSmp _) x

theorem offerFrame_withPlr (s : State) (x : Plr) (r : FrameReport) :
    (s.withPlr x).offerFrame r = (s.offerFrame r).withPlr x := arbitrate_withPlr (s.withSmp _) x

theorem offerFrame_withSlm (s : State) (x : Slm) (r : FrameReport) :
    (s.withSlm x).offerFrame r = (s.offerFrame r).withSlm x := arbitrate_withSlm (s.withSmp _) x

theorem offerFrame_withScn (s : State) (x : Scn) (r : FrameReport) :
    (s.withScn x).offerFrame r = (s.offerFrame r).withScn x := arbitrate_withScn (s.withSmp _) x

theorem offerFrame_withMon (s : State) (x : Mon) (r : FrameReport) :
    (s.withMon x).offerFrame r = (s.offerFrame r).withMon x := arbitrate_withMon (s.withSmp _) x

theorem offerFrame_withGov (s : State) (x : Gov) (r : FrameReport) :
    (s.withGov x).offerFrame r = (s.offerFrame r).withGov x := arbitrate_withGov (s.withSmp _) x

theorem offerFrame_withMdc (s : State) (x : Mdc) (r : FrameReport) :
    (s.withMdc x).offerFrame r = (s.offerFrame r).withMdc x := arbitrate_withMdc (s.withSmp _) x

/-! ## Replies -/

/-- A reply is made by the port alone: no other source is reached, since replies come first (R152, R158). -/
theorem makeReply_eq (s : State) (r : Reply) : s.makeReply r = s.withSmp (s.smp.replied r) := by
  unfold State.makeReply State.arbitrate Smp.replied
  cases hs : s.smp.sending <;> cases s.smp.held <;> simp [hs]

/-- The reply of a command. -/
theorem replyTo_eq (s : State) (c : Instr) (status : Status) (data : List Byte) :
    s.replyTo (commandCode c) (commandTag c) status data = s.replying c status data := makeReply_eq _ _

/-- A reply changes nothing outside the port. -/
theorem replyTo_frame (s : State) (code tag : Byte) (status : Status) (data : List Byte) :
    ∃ x, s.replyTo code tag status data = s.withSmp x := ⟨_, makeReply_eq _ _⟩

@[simp] theorem replyTo_ftb (s : State) (c t st d) : (s.replyTo c t st d).ftb = s.ftb := by
  obtain ⟨x, h⟩ := replyTo_frame s c t st d; simp [h]
@[simp] theorem replyTo_plr (s : State) (c t st d) : (s.replyTo c t st d).plr = s.plr := by
  obtain ⟨x, h⟩ := replyTo_frame s c t st d; simp [h]
@[simp] theorem replyTo_slm (s : State) (c t st d) : (s.replyTo c t st d).slm = s.slm := by
  obtain ⟨x, h⟩ := replyTo_frame s c t st d; simp [h]
@[simp] theorem replyTo_scn (s : State) (c t st d) : (s.replyTo c t st d).scn = s.scn := by
  obtain ⟨x, h⟩ := replyTo_frame s c t st d; simp [h]
@[simp] theorem replyTo_mot (s : State) (c t st d) : (s.replyTo c t st d).mot = s.mot := by
  obtain ⟨x, h⟩ := replyTo_frame s c t st d; simp [h]
@[simp] theorem replyTo_aud (s : State) (c t st d) : (s.replyTo c t st d).aud = s.aud := by
  obtain ⟨x, h⟩ := replyTo_frame s c t st d; simp [h]
@[simp] theorem replyTo_mon (s : State) (c t st d) : (s.replyTo c t st d).mon = s.mon := by
  obtain ⟨x, h⟩ := replyTo_frame s c t st d; simp [h]
@[simp] theorem replyTo_gov (s : State) (c t st d) : (s.replyTo c t st d).gov = s.gov := by
  obtain ⟨x, h⟩ := replyTo_frame s c t st d; simp [h]
@[simp] theorem replyTo_mdc (s : State) (c t st d) : (s.replyTo c t st d).mdc = s.mdc := by
  obtain ⟨x, h⟩ := replyTo_frame s c t st d; simp [h]
@[simp] theorem replyTo_pending (s : State) (c t st d) : (s.replyTo c t st d).pending = s.pending := by
  obtain ⟨x, h⟩ := replyTo_frame s c t st d; simp [h]

/-! ## Notices -/

/-- A notice reaches the port, and through the arbiter the motion and uplink queues; nothing else changes (R157). -/
theorem notify_frame (s : State) (n : Notice) :
    (s.notify n).ftb = s.ftb ∧ (s.notify n).plr = s.plr ∧ (s.notify n).slm = s.slm ∧ (s.notify n).scn = s.scn ∧
      (s.notify n).mon = s.mon ∧ (s.notify n).gov = s.gov ∧ (s.notify n).mdc = s.mdc ∧
      (s.notify n).pending = s.pending := by
  unfold State.notify
  split <;> simp [count_eq]

@[simp] theorem notify_ftb (s : State) (n : Notice) : (s.notify n).ftb = s.ftb := (notify_frame s n).1
@[simp] theorem notify_plr (s : State) (n : Notice) : (s.notify n).plr = s.plr := (notify_frame s n).2.1
@[simp] theorem notify_slm (s : State) (n : Notice) : (s.notify n).slm = s.slm := (notify_frame s n).2.2.1
@[simp] theorem notify_scn (s : State) (n : Notice) : (s.notify n).scn = s.scn := (notify_frame s n).2.2.2.1
@[simp] theorem notify_mon (s : State) (n : Notice) : (s.notify n).mon = s.mon := (notify_frame s n).2.2.2.2.1
@[simp] theorem notify_gov (s : State) (n : Notice) : (s.notify n).gov = s.gov := (notify_frame s n).2.2.2.2.2.1
@[simp] theorem notify_mdc (s : State) (n : Notice) : (s.notify n).mdc = s.mdc := (notify_frame s n).2.2.2.2.2.2.1
@[simp] theorem notify_pending (s : State) (n : Notice) : (s.notify n).pending = s.pending :=
  (notify_frame s n).2.2.2.2.2.2.2

/-! ## How a command takes effect -/

/-- The event of a command where its condition holds on a part that is not held in reset. -/
theorem occur_due {due : State → Bool} {effect : State → State} {s : State} (hr : s.mdc.inReset = false)
    (hd : due s = true) : occur due effect s = .next (effect s) := by simp [occur, hr, hd]

/-- Elsewhere an event changes nothing. -/
theorem occur_not_due {due : State → Bool} {effect : State → State} {s : State} (h : due s = false) :
    occur due effect s = .next s := by simp [occur, h]

/-- A part held in reset has no events. -/
theorem occur_held {due : State → Bool} {effect : State → State} {s : State} (h : s.mdc.inReset = true) :
    occur due effect s = .next s := by simp [occur, h]

/-- A part held in reset executes no command. -/
theorem execute_held {c : Instr} {effect : State → State} {s : State} (h : s.mdc.inReset = true) :
    execute c effect s = .next s := by simp [execute, h]

/-- Where a host command runs, its effect is made on the state with the command claimed. -/
theorem execute_runs {c : Instr} {effect : State → State} {s : State} (h : s.Runs c) :
    execute c effect s = .next (effect (s.claiming c)) := by
  obtain ⟨hr, hx⟩ := h
  unfold execute State.claim State.claiming Smp.claimed
  rcases Bool.eq_false_or_eq_true (s.smp.executes c) with he | he
  · simp [hr, he]
  · have : s.smp.freeEntries ≠ 0 := by rcases hx with hx | hx <;> [simp [he] at hx; omega]
    simp [hr, he, this]

/-- With no FREE entry a command that the interpreter does not hold is unheard (R153). -/
theorem execute_unheard {c : Instr} {effect : State → State} {s : State} (hr : s.mdc.inReset = false)
    (he : s.smp.executes c = false) (hf : s.smp.freeEntries = 0) :
    execute c effect s = .next (s.count .unheard 1) := by simp [execute, State.claim, hr, he, hf]

/-- No command faults or is refused. -/
theorem execute_next (c : Instr) (effect : State → State) (s : State) : ∃ t, execute c effect s = .next t := by
  unfold execute
  split
  · exact ⟨_, rfl⟩
  · split <;> exact ⟨_, rfl⟩

/-- A host command that only replies. -/
theorem execute_reply {c : Instr} {status : Status} {data : State → List Byte} {s : State} (h : s.Runs c) :
    execute c (fun s => s.replyTo (commandCode c) (commandTag c) status (data s)) s =
      .next (s.answering c status (data (s.claiming c))) := by
  rw [execute_runs h, replyTo_eq]; rfl

/-- A claim changes the interpreter or the number of RESERVED entries, and nothing else of the port. -/
theorem claimed_frame (x : Smp) (c : Instr) :
    ∃ i n, x.claimed c = { x with interp := i, reserved := n } := by
  unfold Smp.claimed; split <;> exact ⟨_, _, rfl⟩

@[simp] theorem claimed_counters (x : Smp) (c : Instr) : (x.claimed c).counters = x.counters := by
  obtain ⟨_, _, h⟩ := claimed_frame x c; rw [h]
@[simp] theorem claimed_inbound (x : Smp) (c : Instr) : (x.claimed c).inbound = x.inbound := by
  obtain ⟨_, _, h⟩ := claimed_frame x c; rw [h]
@[simp] theorem claimed_held (x : Smp) (c : Instr) : (x.claimed c).held = x.held := by
  obtain ⟨_, _, h⟩ := claimed_frame x c; rw [h]
@[simp] theorem claimed_notices (x : Smp) (c : Instr) : (x.claimed c).notices = x.notices := by
  obtain ⟨_, _, h⟩ := claimed_frame x c; rw [h]
@[simp] theorem claimed_sending (x : Smp) (c : Instr) : (x.claimed c).sending = x.sending := by
  obtain ⟨_, _, h⟩ := claimed_frame x c; rw [h]
@[simp] theorem claimed_frameSlot (x : Smp) (c : Instr) : (x.claimed c).frameSlot = x.frameSlot := by
  obtain ⟨_, _, h⟩ := claimed_frame x c; rw [h]
@[simp] theorem claimed_monSlot (x : Smp) (c : Instr) : (x.claimed c).monSlot = x.monSlot := by
  obtain ⟨_, _, h⟩ := claimed_frame x c; rw [h]
@[simp] theorem claimed_subtraction (x : Smp) (c : Instr) : (x.claimed c).subtraction = x.subtraction := by
  obtain ⟨_, _, h⟩ := claimed_frame x c; rw [h]
@[simp] theorem claiming_smp (s : State) (c : Instr) : (s.claiming c).smp = s.smp.claimed c := rfl

@[simp] theorem claiming_ftb (s : State) (c : Instr) : (s.claiming c).ftb = s.ftb := rfl
@[simp] theorem claiming_plr (s : State) (c : Instr) : (s.claiming c).plr = s.plr := rfl
@[simp] theorem claiming_slm (s : State) (c : Instr) : (s.claiming c).slm = s.slm := rfl
@[simp] theorem claiming_scn (s : State) (c : Instr) : (s.claiming c).scn = s.scn := rfl
@[simp] theorem claiming_mot (s : State) (c : Instr) : (s.claiming c).mot = s.mot := rfl
@[simp] theorem claiming_aud (s : State) (c : Instr) : (s.claiming c).aud = s.aud := rfl
@[simp] theorem claiming_mon (s : State) (c : Instr) : (s.claiming c).mon = s.mon := rfl
@[simp] theorem claiming_gov (s : State) (c : Instr) : (s.claiming c).gov = s.gov := rfl
@[simp] theorem claiming_mdc (s : State) (c : Instr) : (s.claiming c).mdc = s.mdc := rfl
@[simp] theorem claiming_pending (s : State) (c : Instr) : (s.claiming c).pending = s.pending := rfl

end Sys2Proof.Machine
end

