-- ==== Sys2Proof/Laws/Motion.lean ====
section
/-! SUPPORT. What the shared operations of the Motion Unit can do: the sensor bus, the endings of motion work, the
sample's first steps and the wake filters, each said once. -/

namespace Sys2Proof.Machine

/-! ## The sensor bus (R61) -/

/-- The bus goes to the transaction that waits longest. -/
theorem busNext_eq (m : Mot) : m.busNext = { m with bus := m.waiting.head?, waiting := m.waiting.tail } := by
  unfold Mot.busNext
  cases m.waiting <;> simp

/-- A wanted transaction goes on a free bus, and otherwise waits behind the others. -/
theorem want_eq (m : Mot) (k : TxKind) (answers : Bool) :
    let t : Tx := { kind := k, left := k.duration, wanted := true, answers := answers, rate := k.writes m.rate }
    m.want k answers =
      { m with bus := some (m.bus.getD t), waiting := m.waiting ++ (if m.bus.isSome then [t] else []) } := by
  unfold Mot.want
  cases m.bus <;> simp

/-! ## The endings of motion work -/

/-- A motion report that is offered changes its queue, and through the arbiter the port and the uplink queue (R69,
R158). -/
theorem offerMotion_frame (s : State) (r : MotionReport) :
    (s.offerMotion r).ftb = s.ftb ∧ (s.offerMotion r).plr = s.plr ∧ (s.offerMotion r).mdc = s.mdc ∧
      ∃ q, (s.offerMotion r).mot = { s.mot with queue := q } := by
  unfold State.offerMotion
  obtain ⟨h1, h2, -, -, -, -, h3, -, ⟨q, h4⟩, -⟩ := arbitrate_frame (s.withMot { s.mot with
    queue := if s.mot.queue.length < 4 then s.mot.queue ++ [r]
    else match s.mot.queue with
      | [] => [r]
      | old :: rest => rest ++ [{ r with dropped := sat16 r.dropped (old.samples.length + old.dropped) }] })
  exact ⟨h1, h2, h3, q, h4⟩

theorem offerMotion_withFtb (s : State) (x : Ftb) (r : MotionReport) :
    (s.withFtb x).offerMotion r = (s.offerMotion r).withFtb x := arbitrate_withFtb (s.withMot _) x

/-- Completing the report under assembly empties it and may change the report queue, and leaves the rest of the Motion
Unit (R67). -/
theorem completeDraft_frame (s : State) :
    s.completeDraft.ftb = s.ftb ∧ s.completeDraft.plr = s.plr ∧ s.completeDraft.mdc = s.mdc ∧
      ∃ q, s.completeDraft.mot = { s.mot with queue := q, draft := none } := by
  unfold State.completeDraft
  cases h : s.mot.draft with
  | none => exact ⟨rfl, rfl, rfl, s.mot.queue, by cases hm : s.mot; simp_all⟩
  | some d =>
    simp only
    split
    · exact ⟨rfl, rfl, rfl, s.mot.queue, rfl⟩
    · obtain ⟨h1, h2, h3, q, h4⟩ := offerMotion_frame (s.withMot { s.mot with draft := none })
        { first := d.first, samples := d.samples, acc := s.mot.acc, dropped := 0 }
      exact ⟨h1, h2, h3, q, h4⟩

/-- A calibration in flight is ended by its reply alone (R72). -/
theorem abortCalibration_eq (s : State) :
    s.abortCalibration = match s.mot.cal with
      | none => s
      | some c => (s.withMot { s.mot with cal := none }).withSmp (s.smp.replied
          { code := 0x35, tag := c.tag, status := .aborted, data := num16 c.count, clears := false }) := by
  unfold State.abortCalibration
  cases s.mot.cal with
  | none => rfl
  | some c => exact makeReply_eq _ _

/-- A start in progress is ended by its reply alone (R59, R74). -/
theorem abortStart_eq (s : State) :
    s.abortStart = match s.mot.starting with
      | none => s
      | some (t, _) => (s.withMot { s.mot with starting := none }).withSmp (s.smp.replied
          { code := 0x30, tag := t, status := .aborted, data := [], clears := false }) := by
  unfold State.abortStart
  cases s.mot.starting with
  | none => rfl
  | some c => exact makeReply_eq _ _

/-- Only a sample read on the bus is abandoned (R59, R61, R74). -/
theorem abandonRead_eq (s : State) :
    s.abandonRead = if ∃ x, s.mot.bus = some x ∧ x.kind = .sampleRead then
        (s.withMot { s.mot with bus := s.mot.waiting.head?, waiting := s.mot.waiting.tail, reading := none }).withFtb
          { s.ftb with slot := none }
      else s := by
  unfold State.abandonRead
  rw [busNext_eq]
  by_cases h : ∃ x, s.mot.bus = some x ∧ x.kind = .sampleRead
  · rw [if_pos h, if_pos]
    obtain ⟨x, hx, hk⟩ := h
    simp [hx, hk]
  · rw [if_neg h, if_neg]
    intro hh
    refine h ?_
    cases hb : s.mot.bus with
    | none => simp [hb] at hh
    | some x => exact ⟨x, rfl, by simpa [hb] using hh⟩

/-! ## The wake filters (R76) -/

/-- A filter matches exactly where it is enabled, the sample exceeds it and its run count is reached. -/
theorem eval_matches_iff (f : WakeFilter) (exceeding : Bool) :
    (f.eval exceeding).2 = true ↔ f.enabled = true ∧ exceeding = true ∧ f.runCount ≤ f.counter + 1 := by
  unfold WakeFilter.eval
  cases f.enabled <;> cases exceeding <;> simp
  split <;> simp_all

/-! ## Orders that are not yet answered by every strand (R141, R144) -/

/-- A doze entry with an unfinished strand does not end. -/
theorem finishDoze_waits {s : State} (h : s.mdc.doneMotion = false ∨ s.mdc.doneLane = false ∨ s.mdc.donePanels = false) :
    s.finishDoze = s := by
  unfold State.finishDoze
  rw [if_neg]
  rcases h with h | h | h <;> simp [h]

/-- A wake with an unfinished strand does not end. -/
theorem finishWaking_waits {s : State}
    (h : s.mdc.doneMotion = false ∨ s.mdc.doneLane = false ∨ s.mdc.donePanels = false) : s.finishWaking = s := by
  unfold State.finishWaking
  rw [if_neg]
  rcases h with h | h | h <;> simp [h]

end Sys2Proof.Machine
end

