-- ==== Sys2Proof/Laws/PerInstr.lean ====
section
/-! SUPPORT. Statements made once for each command: the payload written for a well-formed host command has the length
its code and contents call for (section 10.5, R166). -/

namespace Sys2Proof.Laws.LengthCalled

open Sys2Proof.Machine

/-- A well-formed host command is sent with the payload length its contents call for. -/
def Statement (i : Instr) : Prop :=
  i.wellFormed = true → commandCode i ≠ 0 → calledLength (commandCode i) (payloadOf i) = some (payloadOf i).length

theorem resetRelease : Statement .resetRelease :=
  fun _ h => absurd rfl h
theorem powerOnReset : Statement .powerOnReset :=
  fun _ h => absurd rfl h
theorem supplyDipReset : Statement .supplyDipReset :=
  fun _ h => absurd rfl h
theorem sidebandLoss : Statement .sidebandLoss :=
  fun _ h => absurd rfl h
theorem frameWrap : Statement .frameWrap :=
  fun _ h => absurd rfl h
theorem mark (ch : MarkChannel) : Statement (.mark ch) :=
  fun _ h => absurd rfl h
theorem strobeOn (e : Eye) : Statement (.strobeOn e) :=
  fun _ h => absurd rfl h
theorem strobeOff (e : Eye) : Statement (.strobeOff e) :=
  fun _ h => absurd rfl h
theorem syncPulseStart : Statement .syncPulseStart :=
  fun _ h => absurd rfl h
theorem syncPulseEnd : Statement .syncPulseEnd :=
  fun _ h => absurd rfl h
theorem dataReadyEdge (rising : Bool) : Statement (.dataReadyEdge rising) :=
  fun _ h => absurd rfl h
theorem take (e : Eye) (k : Fin 16) : Statement (.take e k) :=
  fun _ h => absurd rfl h
theorem endRequest : Statement .endRequest :=
  fun _ h => absurd rfl h
theorem signalDetected : Statement .signalDetected :=
  fun _ h => absurd rfl h
theorem trainingLock : Statement .trainingLock :=
  fun _ h => absurd rfl h
theorem trainingTimeout : Statement .trainingTimeout :=
  fun _ h => absurd rfl h
theorem signalLoss : Statement .signalLoss :=
  fun _ h => absurd rfl h
theorem activityInIdle : Statement .activityInIdle :=
  fun _ h => absurd rfl h
theorem burstStart (header : List Byte) : Statement (.burstStart header) :=
  fun _ h => absurd rfl h
theorem burstEnd (payload crc : List Byte) : Statement (.burstEnd payload crc) :=
  fun _ h => absurd rfl h
theorem wakingEnd : Statement .wakingEnd :=
  fun _ h => absurd rfl h
theorem idleEntry : Statement .idleEntry :=
  fun _ h => absurd rfl h
theorem identityReadComplete (identity : Byte) : Statement (.identityReadComplete identity) :=
  fun _ h => absurd rfl h
theorem configWriteComplete : Statement .configWriteComplete :=
  fun _ h => absurd rfl h
theorem firstSampleTimeout : Statement .firstSampleTimeout :=
  fun _ h => absurd rfl h
theorem sampleReadComplete (raw : RawSample) : Statement (.sampleReadComplete raw) :=
  fun _ h => absurd rfl h
theorem rateWriteComplete : Statement .rateWriteComplete :=
  fun _ h => absurd rfl h
theorem powerDownWriteComplete : Statement .powerDownWriteComplete :=
  fun _ h => absurd rfl h
theorem stallTimeout : Statement .stallTimeout :=
  fun _ h => absurd rfl h
theorem outputPeriod : Statement .outputPeriod :=
  fun _ h => absurd rfl h
theorem micSample (sample : W16) : Statement (.micSample sample) :=
  fun _ h => absurd rfl h
theorem conversionComplete (code : BitVec 12) : Statement (.conversionComplete code) :=
  fun _ h => absurd rfl h
theorem panelPowerUpDone : Statement .panelPowerUpDone :=
  fun _ h => absurd rfl h
theorem panelPowerDownDone : Statement .panelPowerDownDone :=
  fun _ h => absurd rfl h
theorem offHeadTimeout : Statement .offHeadTimeout :=
  fun _ h => absurd rfl h
theorem proximityEdge (high : Bool) : Statement (.proximityEdge high) :=
  fun _ h => absurd rfl h
theorem recordReceived (bytes : List Byte) : Statement (.recordReceived bytes) :=
  fun _ h => absurd rfl h
theorem recordLengthReject (bytes : List Byte) : Statement (.recordLengthReject bytes) :=
  fun _ h => absurd rfl h
theorem byteTimeout : Statement .byteTimeout :=
  fun _ h => absurd rfl h
theorem commandBegin : Statement .commandBegin :=
  fun _ h => absurd rfl h
theorem recordSent : Statement .recordSent :=
  fun _ h => absurd rfl h
theorem identify (tag : Byte) : Statement (.identify tag) :=
  fun _ _ => rfl
theorem statusRead (tag : Byte) : Statement (.statusRead tag) :=
  fun _ _ => rfl
theorem statusReadClear (tag : Byte) : Statement (.statusReadClear tag) :=
  fun _ _ => rfl
theorem reset (tag : Byte) : Statement (.reset tag) :=
  fun _ _ => rfl
theorem timingSet (tag : Byte) (f : TimingFields) : Statement (.timingSet tag f) := fun _ _ => by
  simp [commandCode, calledLength, payloadOf, presence, optionalWidths, markedLength_packBits]; omega
theorem timingGet (tag : Byte) : Statement (.timingGet tag) :=
  fun _ _ => rfl
theorem sync (tag : Byte) (f : SyncFields) : Statement (.sync tag f) := fun _ _ => by
  simp [commandCode, calledLength, payloadOf, presence, optionalWidths, markedLength_packBits]; omega
theorem strobeSet (tag : Byte) (f : StrobeFields) : Statement (.strobeSet tag f) := fun _ _ => by
  simp [commandCode, calledLength, payloadOf, presence, optionalWidths, markedLength_packBits]; omega
theorem strobeGet (tag : Byte) : Statement (.strobeGet tag) :=
  fun _ _ => rfl
theorem shiftSet (tag : Byte) (f : ShiftFields) : Statement (.shiftSet tag f) := fun _ _ => by
  simp [commandCode, calledLength, payloadOf, presence, optionalWidths, markedLength_packBits]; omega
theorem shiftGet (tag : Byte) : Statement (.shiftGet tag) :=
  fun _ _ => rfl
theorem shiftProbe (tag : Byte) (ref : W16) (target : W32) : Statement (.shiftProbe tag ref target) :=
  fun _ _ => rfl
theorem holdSet (tag : Byte) (hold : Byte) : Statement (.holdSet tag hold) :=
  fun _ _ => rfl
theorem holdTable (tag : Byte) : Statement (.holdTable tag) :=
  fun _ _ => rfl
theorem laneSet (tag : Byte) (f : LaneFields) : Statement (.laneSet tag f) := fun _ _ => by
  simp [commandCode, calledLength, payloadOf, presence, optionalWidths, markedLength_packBits]; omega
theorem laneGet (tag : Byte) : Statement (.laneGet tag) :=
  fun _ _ => rfl
theorem modeRun (tag : Byte) (target : Byte) : Statement (.modeRun tag target) :=
  fun _ _ => rfl
theorem modeStandby (tag : Byte) : Statement (.modeStandby tag) :=
  fun _ _ => rfl
theorem modeDoze (tag : Byte) : Statement (.modeDoze tag) :=
  fun _ _ => rfl
theorem modeWake (tag : Byte) : Statement (.modeWake tag) :=
  fun _ _ => rfl
theorem modeAutodoze (tag : Byte) (f : AutodozeFields) : Statement (.modeAutodoze tag f) := fun _ _ => by
  simp [commandCode, calledLength, payloadOf, presence, optionalWidths, markedLength_packBits]; omega
theorem modeGet (tag : Byte) : Statement (.modeGet tag) :=
  fun _ _ => rfl
theorem wakesourceRead (tag : Byte) : Statement (.wakesourceRead tag) :=
  fun _ _ => rfl
theorem wakesourceClear (tag : Byte) : Statement (.wakesourceClear tag) :=
  fun _ _ => rfl
theorem motionStart (tag : Byte) (f : MotionStartFields) : Statement (.motionStart tag f) := fun _ _ => by
  simp [commandCode, calledLength, payloadOf, presence, optionalWidths, markedLength_packBits]; omega
theorem motionStop (tag : Byte) : Statement (.motionStop tag) :=
  fun _ _ => rfl
theorem motionGet (tag : Byte) : Statement (.motionGet tag) :=
  fun _ _ => rfl
theorem biasSet (tag : Byte) (f : BiasFields) : Statement (.biasSet tag f) := fun _ _ => by
  simp [commandCode, calledLength, payloadOf, presence, optionalWidths, markedLength_packBits]; omega
theorem biasGet (tag : Byte) : Statement (.biasGet tag) :=
  fun _ _ => rfl
theorem calibrate (tag : Byte) (f : CalibrateFields) : Statement (.calibrate tag f) := fun _ _ => by
  simp [commandCode, calledLength, payloadOf, presence, optionalWidths, markedLength_packBits]; omega
theorem recentre (tag : Byte) (f : RecentreFields) : Statement (.recentre tag f) := fun _ _ => by
  by_cases h : f.mode = 1#8 ∨ f.mode = 2#8 <;> simp [commandCode, calledLength, payloadOf, h]
theorem wakefilterSet (tag : Byte) (f : WakeFilterFields) : Statement (.wakefilterSet tag f) :=
  fun _ _ => rfl
theorem wakefilterGet (tag : Byte) : Statement (.wakefilterGet tag) :=
  fun _ _ => rfl
theorem audioSet (tag : Byte) (f : AudioFields) : Statement (.audioSet tag f) := fun _ _ => by
  simp [commandCode, calledLength, payloadOf, presence, optionalWidths, markedLength_packBits]; omega
theorem audioPlayStart (tag : Byte) : Statement (.audioPlayStart tag) :=
  fun _ _ => rfl
theorem audioPlayStop (tag : Byte) : Statement (.audioPlayStop tag) :=
  fun _ _ => rfl
theorem micStart (tag : Byte) : Statement (.micStart tag) :=
  fun _ _ => rfl
theorem micStop (tag : Byte) : Statement (.micStop tag) :=
  fun _ _ => rfl
theorem audioGet (tag : Byte) : Statement (.audioGet tag) :=
  fun _ _ => rfl
theorem monitorSet (tag : Byte) (f : MonitorFields) : Statement (.monitorSet tag f) := fun hw _ => by
  have hl : f.items.length % 256 = f.items.length :=
    Nat.mod_eq_of_lt (Nat.lt_succ_of_le (by simpa [Instr.wellFormed] using hw))
  cases hm : f.mask <;> cases hd : f.divider <;>
    simp [commandCode, calledLength, payloadOf, presence, optionalWidths, markedLength_packBits, hm, hd, sent8, sent16,
      le16, num8, List.zipIdx, hl, ← length_itemBytes] <;> omega
theorem monitorStop (tag : Byte) : Statement (.monitorStop tag) :=
  fun _ _ => rfl
theorem monitorGet (tag : Byte) : Statement (.monitorGet tag) :=
  fun _ _ => rfl
theorem roundOneShot (tag : Byte) (mode : Byte) (first : Byte) (last : Byte) : Statement (.roundOneShot tag mode first last) :=
  fun _ _ => rfl
theorem roundContinuous (tag : Byte) (first : Byte) (last : Byte) : Statement (.roundContinuous tag first last) :=
  fun _ _ => rfl
theorem allowanceSet (tag : Byte) (allowance : W16) : Statement (.allowanceSet tag allowance) :=
  fun _ _ => rfl
theorem allowanceGet (tag : Byte) : Statement (.allowanceGet tag) :=
  fun _ _ => rfl
theorem limitsSet (tag : Byte) (f : LimitsFields) : Statement (.limitsSet tag f) := fun _ _ => by
  simp [commandCode, calledLength, payloadOf, presence, optionalWidths, markedLength_packBits]; omega
theorem limitsGet (tag : Byte) : Statement (.limitsGet tag) :=
  fun _ _ => rfl
theorem sidebandSignalPresent : Statement .sidebandSignalPresent :=
  fun _ h => absurd rfl h

end Sys2Proof.Laws.LengthCalled
end

