-- ==== Sys2Proof/Tests/Slice0.lean ====
section
/-! SUPPORT. Tests of the model on the manual's worked cases, the smoke test of `Instr.wellFormed`, and, for every
statement of Certificates/Slice0/Obligations.lean with hypotheses, states that meet them (`witness_…`). Each expected
value comes from the section of the manual that the test's comment names. -/

namespace Sys2Proof.Tests
open Sys2Proof.Machine

-- One test after another: checked side by side, each takes a thread with a stack of its own.
set_option Elab.async false

/-! ## Helpers -/

/-- The state a command leaves. -/
def after (s : State) (c : Instr) : State :=
  match exec c s with
  | .next t => t
  | .fault _ => s
  | .refused _ => s

/-- The states a list of commands leaves. -/
def afterAll (s : State) (cs : List Instr) : State := cs.foldl after s

/-- The reply being sent: its code and its status. -/
def answer (s : State) : Option (Byte × Status) :=
  match s.smp.sending with
  | some (.reply r) => some (r.code, r.status)
  | _ => none

/-- The data of the reply being sent. -/
def answerData (s : State) : List Byte :=
  match s.smp.sending with
  | some (.reply r) => r.data
  | _ => []

/-- The part in RUN: panels on, scanning. -/
def inRun : State :=
  { State.reset with
    mdc := { State.reset.mdc with device := .run, panel := .on },
    scn := { State.reset.scn with mode := .scanning, frame := some State.reset.fixAtWrap, report := some Draft.empty } }

/-- The part in DOZE, entered from RUN. -/
def inDoze : State :=
  { State.reset with
    mdc := { State.reset.mdc with device := .doze, prior := some .run },
    plr := { State.reset.plr with hold := true } }

/-- The part held in reset. -/
def held : State := after State.reset .powerOnReset

/-- A state with the Motion Unit replaced. -/
def withMotion (f : Mot → Mot) : State := State.reset.withMot (f State.reset.mot)

/-- A transaction that has run its time. -/
def ran (k : TxKind) (wanted answers : Bool) : Tx := { kind := k, left := 0, wanted := wanted, answers := answers }

/-- A slice of eye L, index 5. -/
def slice (ph : Phase) (tag : W16) (hold age : Nat) : Slice :=
  { phase := ph, eye := .left, index := 5, tag := tag, ref := 0, arrival := none, scanEnd := some 0, hold := hold,
    pinned := false, age := age, content := [] }

/-- A Slice Memory of a few cells, the others FREE. -/
def cells (xs : List (Option Slice)) : Slm :=
  { cells := xs ++ List.replicate (40 - xs.length) none, up := Eyes.both none }

/-- A wake filter as reset leaves it (R78). -/
def filterOff : WakeFilter := { enabled := false, axes := 0, threshold := 32767, runCount := 64, counter := 0 }

/-- Filter 0 of "a wake by lifting" (section 4.9), with a run count of its own. -/
def lifted (runCount : Nat) : WakeFilter :=
  { enabled := true, axes := 32, threshold := 300, runCount := runCount, counter := 0 }

/-- DOZE with the sensor in DOZE_WATCH and a sample read that has run its time. -/
def watching (runCount : Nat) : State :=
  inDoze.withMot { inDoze.mot with
    state := .dozeWatch, reading := some ⟨100, false⟩, bus := some (ran .sampleRead true false),
    accelRef := some { x := 0, y := 0, z := 2048 }, filters := inDoze.mot.filters.set 0 (lifted runCount) }

/-- A sample of the lifted headset. -/
def liftedSample : RawSample := { gx := 0, gy := 0, gz := 0, ax := 0, ay := 0, az := 2400 }

/-- A record that is being sent. -/
def notice : Upstream := .notice (.motion false 0 0)

/-- A reset part whose sideband is sending. -/
def sending : State := State.reset.withSmp { State.reset.smp with sending := some notice }

/-! ## WellFormed refuses an ill-formed term at each check -/

theorem test_wellFormed_refuses :
    (Instr.burstStart (List.replicate 12 0)).wellFormed = false ∧ (Instr.recordReceived []).wellFormed = false ∧
      (Instr.recordLengthReject []).wellFormed = false ∧ (Instr.modeRun 0 1).wellFormed = false ∧
      (Instr.modeRun 0 2).wellFormed = false ∧ (Instr.modeRun 0 3).wellFormed = false ∧
      (Instr.recentre 0 { mode := 0, yaw := 1, pitch := 0, roll := 0 }).wellFormed = false ∧
      (Instr.monitorSet 0
        { stray := false, mask := none, divider := none,
          items := List.replicate 256 { input := 0, presence := 0, low := 0, high := 0 } }).wellFormed = false ∧
      (Instr.roundOneShot 0 1 0 7).wellFormed = false := by decide +kernel

theorem test_wellFormed_admits :
    (Instr.burstStart (List.replicate 11 0)).wellFormed = true ∧ (Instr.modeRun 0 4).wellFormed = true ∧
      (Instr.recentre 0 { mode := 1, yaw := 1, pitch := 0, roll := 0 }).wellFormed = true ∧
      (Instr.roundOneShot 0 0 0 7).wellFormed = true := by decide +kernel

/-! ## Record formats: R164, R165, section 10.1 -/

/-- The nine ASCII bytes 123456789. -/
def digits : List Byte := [0x31, 0x32, 0x33, 0x34, 0x35, 0x36, 0x37, 0x38, 0x39]

theorem test_crc16_of_digits : crc16 digits = 0x29B1 := by decide +kernel

/-- The check value of the CRC-32 parameters of R165. -/
theorem test_crc32_of_digits : crc32 digits = 0xCBF43926 := by decide +kernel

/-- IDENTIFY with an empty payload is 9 bytes (section 10.1). -/
theorem test_identify_record_length : (commandRecord (.identify 7)).length = 9 := by decide +kernel

/-- A SLICE header of section 10.2: eye R, index 8, tag 310, reference 5,000, payload length 691,200. -/
theorem test_slice_header :
    checkHeader [1, 1, 8, 0x36, 0x01, 0x88, 0x13, 0x00, 0x8C, 0x0A, 0x00] = .slice .right 8 310 5000 := by
  decide +kernel

/-- An AUDIO header of section 10.2: tag 300, 240 sample frames, payload length 960; and with length 961. -/
theorem test_audio_header :
    checkHeader [2, 0x2C, 0x01, 0xF0, 0x00, 0xC0, 0x03, 0x00, 0x00] = .audio 300 240 ∧
      checkHeader [2, 0x2C, 0x01, 0xF0, 0x00, 0xC1, 0x03, 0x00, 0x00] = .malformed := by decide +kernel

/-- TIMING SET with P alone: code 0x10, presence bit 0, 8,333 low byte first (section 10.5). -/
theorem test_timing_record_reads :
    (after State.reset (.recordReceived (recordBytes 1 0x10 0x21 [0x01, 0x8D, 0x20]))).smp.inbound =
      [.timingSet 0x21 { stray := false, p := some 8333, s := none, l := none, monTick := none }] := by decide +kernel

/-- Entry 10 of the worked report of section 3.6: index 5, eye L, HELD gives a first byte of 37. -/
theorem test_entry_head :
    ({ eye := .left, index := 5, outcome := .held, tag := none, shiftX := 0, shiftY := 0,
       flags := ShiftFlags.clear } : SliceEntry).headByte = 37 := by decide +kernel

/-! ## Frame Timebase -/

/-- The worked cases of section 1.4: one strobe pulse. -/
theorem test_pulses :
    pulseOf 10500 1200 11111 = (some { start := 9900, stop := 11100 }, false) ∧
      pulseOf 10500 1201 11111 = (some { start := 9900, stop := 11101 }, false) ∧
      pulseOf 10500 2000 11111 = (some { start := 9500, stop := 11111 }, true) ∧
      pulseOf 300 1000 11111 = (some { start := 0, stop := 800 }, false) ∧
      pulseOf 0 11111 11111 = (some { start := 0, stop := 11111 }, false) ∧
      pulseOf 0 12000 11111 = (some { start := 0, stop := 11111 }, true) ∧ pulseOf 0 0 11111 = (none, false) := by
  decide +kernel

/-- TIMING SET P alone from the defaults. -/
def timingP : Instr := .timingSet 1 { stray := false, p := some 8333, s := none, l := none, monTick := none }

/-- Worked sequence "moving from 90 Hz to 120 Hz", step 1: CONFLICT, and nothing is staged. -/
theorem test_timing_conflict :
    answer (after State.reset timingP) = some (0x10, .conflict) ∧ (after State.reset timingP).ftb = State.reset.ftb := by
  decide +kernel

/-- The same sequence, steps 2 to 4: all OK, and the staged set has P 8,333 and L 470. -/
theorem test_timing_sequence :
    (afterAll State.reset
      [.strobeSet 2 { stray := false, cL := some 7800, cR := some 7800, wReq := none, iPk := none },
       .laneSet 3 { stray := false, policy := none, dReq := none, dMin := none, tWait := none, w := some 8000 },
       .timingSet 4 { stray := false, p := some 8333, s := none, l := some 470, monTick := none }]).ftb.staged =
      { TimingSet.default with cL := 7800, cR := 7800, w := 8000, p := 8333, l := 470 } := by decide +kernel

/-- R2: at the wrap FC restarts, FS counts, and the staged set becomes live. -/
theorem test_wrap :
    let s : State := State.reset.withFtb { State.reset.ftb with
      tbc := 11111, fc := 11110, wrapDue := true, staged := { TimingSet.default with wReq := 9 } }
    (after s .frameWrap).ftb.fc = 0 ∧ (after s .frameWrap).ftb.fs = 1 ∧
      (after s .frameWrap).ftb.frameStart = 11111 ∧ (after s .frameWrap).ftb.live.wReq = 9 := by decide +kernel

/-! ## Slice Memory: the worked sequences of sections 2.4 and 2.5 -/

/-- A late slice: cell 12 HELD while cell 7 fills; then cell 7 FRESH; then, RETAINED with a hold count at the limit,
the newest cell 7 is not held and cell 12 is passed by. -/
theorem test_take_outcomes :
    (cells [some (slice .filling 201 0 0), some (slice .retained 200 0 9)]).resolve .left 5 2 = (.held, some 1) ∧
      (cells [some (slice .ready 201 0 0), some (slice .retained 200 1 9)]).resolve .left 5 2 = (.fresh, some 0) ∧
      (cells [some (slice .retained 201 2 3), some (slice .retained 200 1 9)]).resolve .left 5 2 = (.blank, none) := by
  decide +kernel

/-- The four cells of "a neighbour superseded while pinned": 7 SCANNING, 8 READY, 9 READY, a later 9 FILLING. -/
def window8 : Slm :=
  let x (ph : Phase) (k : Nat) (tag : W16) : Option Slice := some { slice ph tag 0 0 with eye := .right, index := k }
  cells [x .scanning 7 310, x .ready 8 310, x .ready 9 310, x .filling 9 311]

/-- Tick 5,100: the take of slice 8 is FRESH on its cell, and its neighbours are the cells of 7 and 9. -/
theorem test_take_and_neighbours :
    let t := window8.takeRequest .right 8 2 5100
    t.1 = .fresh ∧ t.2.1 = some 1 ∧ t.2.2.neighbours .right 8 310 (-3) = (some 0, some 2) := by decide +kernel

/-- Tick 5,400: the pinned READY cell is superseded to DRAINING; tick 5,700: it is FREE, and the late cell is FRESH. -/
theorem test_pinned_supersede :
    let m := (((window8.takeRequest .right 8 2 5100).2.2.pin (some 0)).pin (some 2))
    let c := (m.complete 3 5400 []).1
    let t := c.takeRequest .right 9 2 5700
    (c.slice 2).map (·.phase) = some .draining ∧ (m.complete 3 5400 []).2 = true ∧ t.2.2.slice 2 = none ∧
      t.2.1 = some 3 ∧ (t.2.2.slice 0).map (·.pinned) = some false := by decide +kernel

/-- A second burst takes the oldest RETAINED cell when no cell is FREE (R27). -/
theorem test_reclaim_oldest :
    (Slm.allocate { cells := [some (slice .retained 1 0 5), some (slice .retained 2 0 9), some (slice .ready 3 0 0)],
                    up := Eyes.both none } .right 3 7 8).map (·.1) = some 1 := by decide +kernel

/-! ## Scanout Engine: "sourcing one window" (section 3.3) -/

/-- The bytes of one grey pixel. -/
def bytes3 (v : Byte) : List Byte := [v, v, v]

/-- Shift (14, −3): columns below 14 are black, line 1,077 comes from the cell below, and is black without one. -/
theorem test_window_lines :
    let b : Band := { index := 8, taken := some [], above := none, below := some (bytes3 9), shiftX := 14, shiftY := -3 }
    b.pixel 13 1077 = Pixel.black ∧ b.pixel 14 1077 = { red := 9, green := 9, blue := 9 } ∧
      ({ b with below := none } : Band).pixel 14 1077 = Pixel.black ∧
      ({ b with taken := some (bytes3 7), shiftY := 0 } : Band).pixel 14 960 = { red := 7, green := 7, blue := 7 } := by
  decide +kernel

/-! ## Motion Unit -/

/-- Worked trace "residue carry", yaw: the residue after each of the five samples, and their sum. -/
theorem test_residue_trace :
    let next (x : W32 × Nat) : W32 × Nat := integrateAxis x.1 x.2 800 1000
    (next (0, 0)) = (3276, 800000) ∧ (next (next (0, 0))) = (6553, 600000) ∧
      next (next (next (next (next (0, 0))))) = (16384, 0) := by decide +kernel

/-- Calibration rounding (section 4.7): 12.5 gives 13 and −4.5 gives −5. -/
theorem test_calibration_rounding : nearest 3200 256 = 13 ∧ nearest (-1152) 256 = -5 := by decide +kernel

/-- A sample of the worked report of section 4.6. -/
def sample (tbc : W32) (x y z a b c : Int) : ReportSample :=
  { tbc := tbc, gyro := { x := BitVec.ofInt 16 x, y := BitVec.ofInt 16 y, z := BitVec.ofInt 16 z },
    accel := { x := BitVec.ofInt 16 a, y := BitVec.ofInt 16 b, z := BitVec.ofInt 16 c }, clipped := false,
    overrun := false, intervalClamped := false }

/-- The four samples of that report. -/
def reported : List ReportSample :=
  [sample 2000000 (-160) 800 5 12 (-40) 2048, sample 2001000 (-158) 803 4 15 (-44) 2050,
   sample 2002001 (-150) 810 4 15 (-44) 2350, sample 2002999 (-149) 790 3 14 (-45) 2222]

/-- KEY, DELTA, KEY, DELTA: a payload of 69 bytes (sections 4.6 and 10.3). -/
theorem test_report_forms :
    (MotionReport.payload
      { first := 1, samples := reported, acc := { yaw := 0, pitch := 0, roll := 0 }, dropped := 0 }).length = 69 := by decide +kernel

/-- "A wake by lifting": filter 0 at the z values 2,100, 2,400, 2,380 and 1,700 against the reference 2,048. -/
theorem test_wake_filter :
    let f : WakeFilter := { enabled := true, axes := 32, threshold := 300, runCount := 3, counter := 0 }
    let z (v : Nat) : Axes W16 := { x := 0, y := 0, z := BitVec.ofNat 16 v }
    let g (f : WakeFilter) (v : Nat) : WakeFilter × Bool := f.eval (f.exceeds (z 0) (z v) (z 2048))
    let f1 := g f 2100
    let f2 := g f1.1 2400
    let f3 := g f2.1 2380
    let f4 := g f3.1 1700
    (f1.1.counter = 0 ∧ f2.1.counter = 1 ∧ f3.1.counter = 2 ∧ f4.1.counter = 0) ∧
      (f1.2 = false ∧ f2.2 = false ∧ f3.2 = false ∧ f4.2 = true) := by decide +kernel

/-! ## Late shift: section 5.3 -/

/-- The live settings of the worked case. -/
def shiftLive : TimingSet := { TimingSet.default with shiftEnable := true }

/-- A ring entry of the worked case. -/
def entry (seq : W16) (yaw pitch : Int) : RingEntry :=
  { seq := seq, tbc := 1000000, acc := { yaw := BitVec.ofInt 32 yaw, pitch := BitVec.ofInt 32 pitch, roll := 0 },
    rate := { x := BitVec.ofInt 16 (-160), y := 800, z := 0 } }

/-- The worked case: (14, −3) with every flag clear. -/
theorem test_shift_worked_case :
    let r := shiftBetween shiftLive (1000000 + 6000) (entry 5008 126214 (-25243)) (entry 5000 100000 (-20000)) 8
    r.shiftX = 14 ∧ r.shiftY = -3 ∧ r.flags = ShiftFlags.clear ∧ r.detail = some (19661, -3932, 45875, -9175) := by
  decide +kernel

/-- The edge cases: a fast turn, the ties, and the horizon at its limit. -/
theorem test_shift_edges :
    clipShift (toPixels 1000000 5120) 64 = (64, true) ∧ clipShift (toPixels (-2000000) 5120) 60 = (-60, true) ∧
      toPixels 32768 256 = 1 ∧ toPixels (-32768) 256 = -1 ∧ boundHorizon 40000 25000 = (25000, false, true) ∧
      extrapolate 800 25000 = 81920 := by decide +kernel

/-! ## Audio Unit -/

/-- "One ramp" (section 6.3), base (10,000, −7). -/
theorem test_ramp :
    let f (i : Nat) : Stereo := Ramp.frame { base := { l := 10000, r := BitVec.ofInt 16 (-7) }, step := i }
    f 1 = { l := 9687, r := BitVec.ofInt 16 (-6) } ∧ f 16 = { l := 5000, r := BitVec.ofInt 16 (-3) } ∧
      f 28 = { l := 1250, r := 0 } ∧ f 31 = { l := 312, r := 0 } ∧ f 32 = { l := 0, r := 0 } := by decide +kernel

/-- "Gain and cap" (section 6.4). -/
theorem test_gain_and_cap :
    outputSample 20000 256 256 = 20000 ∧ outputSample 20000 200 256 = 15625 ∧ outputSample 20000 200 128 = 10000 ∧
      outputSample (BitVec.ofInt 16 (-3)) 200 256 = BitVec.ofInt 16 (-3) ∧
      outputSample (BitVec.ofInt 16 (-3)) 64 128 = BitVec.ofInt 16 (-1) ∧ outputSample 32767 0 256 = 0 := by
  decide +kernel

/-! ## Power Governor: "limiting, shedding and the hold" (section 7.8) -/

/-- The settings of the sequence. -/
def governor (st : GovState) : Gov := { State.reset.gov with allowance := 5000, state := st }

/-- The live set of the sequence. -/
def governed : TimingSet := { TimingSet.default with iPk := 600, wReq := 1200 }

theorem test_governor_E1_E3 :
    let e (w iin : Nat) (skin : Int) : Evaluation := (governor .normal).evaluate governed w 12000 iin skin 0
    ((e 1200 400 350).pBl = 1555 ∧ (e 1200 400 350).pBase = 3245 ∧ (e 1200 400 350).wLimit = 968) ∧
      (e 968 375 350).wLimit = 967 ∧ (e 967 375 415).aEff = 2500 ∧ (e 967 375 415).budget = -1247 ∧
      (e 967 375 415).wLimit = 0 := by decide +kernel

theorem test_governor_states :
    (governor .normal).decide 968 1200 = .limiting ∧ (governor .limiting).decide 0 1200 = .shedding ∧
      (governor .shedding).decide 200 1200 = .shedding ∧ (governor .shedding).decide 457 1200 = .limiting := by
  decide +kernel

/-- "A dip and a recovery": 7,900 takes a LIMITING Governor into POWER_FAIL with the limit kept; 8,600 and 8,450 at
the frame rounds give the counts 1 and 0. -/
theorem test_dip_and_recovery :
    let s := State.reset.withGov { State.reset.gov with state := .limiting, wLimit := 968 }
    let t := s.undervoltage 7900 0
    t.gov.state = .powerFail ∧ t.gov.wLimit = 968 ∧ t.ftb.cut = true ∧ t.smp.sending =
        some (.notice (.governor .powerFail .limiting 7900 0)) ∧
      t.gov.recoveryAfter 8600 = 1 ∧ (t.gov.recoveryAfter 8450) = 0 := by decide +kernel

/-! ## Picture lane: "one frame of lane idle" (section 8.2) -/

/-- Frame n at tick 3,200: 300 µs after the last burst end. -/
def quiet : State :=
  { inRun with
    plr := { inRun.plr with
      signal := true, lane := .active, policy := true, lastEnd := some 5002900 },
    ftb := { inRun.ftb with tbc := 5003200, fc := 3200, frameStart := 5000000 } }

/-- The lane goes IDLE, and the notice names the resume TBC 5,010,950. -/
theorem test_lane_idle :
    quiet.idleEntryIsDue = true ∧ (after quiet .idleEntry).plr.lane = .idle ∧
      (after quiet .idleEntry).smp.sending = some (.notice (.laneIdle 5010950 5003200)) := by decide +kernel

/-! ## Mode Controller and resets -/

/-- R134: DOZE from STANDBY, with no sensor at speed, no lane and the panels off, is over at once. -/
theorem test_doze_from_standby :
    (after State.reset (.modeDoze 5)).mdc.device = .doze ∧
      answer (after State.reset (.modeDoze 5)) = some (0x22, .ok) := by decide +kernel

/-- R134: WAKE outside DOZE is WRONG_STATE; a target code above 3 is BAD_VALUE. -/
theorem test_mode_refusals :
    answer (after State.reset (.modeWake 5)) = some (0x22, .wrongState) ∧
      answer (after State.reset (.modeRun 5 9)) = some (0x22, .badValue) := by decide +kernel

/-- R132, R148: a supply dip holds the part in reset, and the release keeps the cause. -/
theorem test_dip_holds_and_releases :
    (after State.reset .supplyDipReset).mdc.inReset = true ∧
      (afterAll State.reset [.supplyDipReset, .resetRelease]).mdc.inReset = false ∧
      (afterAll State.reset [.supplyDipReset, .resetRelease]).mdc.resetCause = .supplyDip := by decide +kernel

/-- R154: a record received is begun, and executed 10 µs later. -/
theorem test_command_takes_ten_microseconds :
    let s := afterAll State.reset [.recordReceived (commandRecord (.modeGet 3)), .commandBegin]
    s.nextEvent = none ∧ (Nat.iterate State.tick 10 s).dueCommand = some (.modeGet 3) := by decide +kernel

/-! ## Witnesses: states that meet the hypotheses of the statements, clause by clause -/

theorem witness_StepRunsTheFrontCommand :
    (State.reset.withPending [.frameWrap, .endRequest]).pending = .frameWrap :: [.endRequest] := rfl

theorem witness_StepWithNoCommandWaiting :
    State.reset.pending = [] ∧ State.reset.nextEvent = none ∧ State.reset.waitsForValue = false ∧
      State.reset.mdc.inReset = false ∧
      (State.reset.withFtb { State.reset.ftb with fc := 100 }).nextEvent = some (.mark .ec3) ∧
      (let s := (State.reset.withMot { State.reset.mot with bus := some (ran .identityRead true false) })
       s.nextEvent = none ∧ s.waitsForValue = true) ∧
      (held.pending = [] ∧ held.nextEvent = none ∧ held.waitsForValue = false ∧ held.mdc.inReset = true) ∧
      (let s := State.reset.withSlm (cells [some (slice .retained 7 0 4294967295)])
       s.pending = [] ∧ s.nextEvent = none ∧ s.waitsForValue = false ∧
         s.slm.slice 0 = some (slice .retained 7 0 4294967295) ∧ s.slm.slice 1 = none) := by decide +kernel

theorem witness_CommandsThatCannotRun :
    held.mdc.inReset = true ∧ actsInReset (.timingGet 1) = false ∧ actsInReset .frameWrap = false ∧
      (let s := State.reset.withSmp { State.reset.smp with reserved := 16 }
       commandCode (.timingGet 1) ≠ 0 ∧ s.mdc.inReset = false ∧ s.smp.executes (.timingGet 1) = false ∧
         s.smp.freeEntries = 0) := by decide +kernel

theorem witness_Resets :
    held.mdc.inReset = true ∧ State.reset.mdc.inReset = false ∧ State.reset.Runs (.reset 1) ∧
      (let s (signal seen : Bool) (time : Nat) : State := State.reset.withMdc
        { State.reset.mdc with sidebandSignal := signal, sidebandSeen := seen, sidebandTime := time }
       ((s true true 50000).mdc.sidebandSignal = true ∧ 50000 ≤ (s true true 50000).mdc.sidebandTime) ∧
         ((s true true 49999).mdc.sidebandSeen = true ∧ (s true true 49999).mdc.sidebandTime < 50000) ∧
         ((s false true 50000).mdc.sidebandSignal = false ∧ 50000 ≤ (s false true 50000).mdc.sidebandTime) ∧
         ((s true false 0).mdc.sidebandSeen = false ∧ (s true false 0).mdc.sidebandTime < 50000)) := by decide +kernel

/-- R148: 50 ms without the signal reset a part that has seen it since the last reset, and not one that has not. -/
theorem test_sideband_loss :
    let seen := after State.reset .sidebandSignalPresent
    let s (x : State) (time : Nat) : State := x.withMdc { x.mdc with sidebandTime := time }
    (after (s seen 50000) .sidebandLoss).mdc.resetCause = .sidebandLoss ∧
      (after (s (after seen (.reset 1)) 49999) .sidebandLoss).mdc.resetCause = .resetCommand := by decide +kernel

/-- A command is executed both by the interpreter and, with a FREE entry, put into the queue by its sender. -/
theorem witness_Runs :
    State.reset.Runs (.timingGet 1) ∧
      (State.reset.withSmp { State.reset.smp with
        reserved := 16, interp := some { command := .timingGet 1, left := 0 } }).Runs (.timingGet 1) := by
  decide +kernel

/-- The predicates that the steps keep are met in RUN and in DOZE, and `step` goes on from there. -/
theorem witness_invariants_in_RUN :
    inRun.FrameSound ∧ inRun.PowerFailSound ∧ inRun.SlicesSound ∧ inRun.AgesSound ∧ inRun.MotionSound ∧
      inRun.AudioSound ∧ inRun.MonitorSound ∧ inRun.GovernorSound ∧ inRun.ModeSound ∧ inRun.LaneSound ∧
      inRun.ScanSound ∧ inRun.LedgerSound ∧ inRun.CountersSound ∧ inRun.UpstreamSound := by
  refine ⟨?_, ?_, ?_, ?_, ?_, ?_, ?_, ?_, ?_, ?_, ?_, ?_, ?_, ?_⟩ <;> decide +kernel

theorem witness_invariants_in_DOZE :
    inDoze.FrameSound ∧ inDoze.PowerFailSound ∧ inDoze.SlicesSound ∧ inDoze.AgesSound ∧ inDoze.MotionSound ∧
      inDoze.AudioSound ∧ inDoze.MonitorSound ∧ inDoze.GovernorSound ∧ inDoze.ModeSound ∧ inDoze.LaneSound ∧
      inDoze.ScanSound ∧ inDoze.LedgerSound ∧ inDoze.CountersSound ∧ inDoze.UpstreamSound := by
  refine ⟨?_, ?_, ?_, ?_, ?_, ?_, ?_, ?_, ?_, ?_, ?_, ?_, ?_, ?_⟩ <;> decide +kernel

theorem witness_invariants_step : step inRun = .next inRun.tick ∧ step inDoze = .next inDoze.tick := ⟨rfl, rfl⟩

theorem witness_TheLiveSetChangesOnlyAtWraps :
    resetsThePart .frameWrap = false ∧ resetsThePart (.timingGet 1) = false ∧
      exec (.timingGet 1) State.reset = .next (after State.reset (.timingGet 1)) := ⟨rfl, rfl, rfl⟩

theorem witness_OnlyAWakeEventEndsADoze :
    (Instr.modeWake 1).wellFormed = true ∧ inDoze.ModeSound ∧ inDoze.mdc.device = .doze ∧
      (after inDoze (.modeWake 1)).mdc.device = .waking ∧ (after inDoze (.proximityEdge true)).mdc.device = .waking ∧
      (watching 1).ModeSound ∧ (watching 1).mdc.device = .doze ∧
      (after (watching 1) (.sampleReadComplete liftedSample)).mdc.device = .waking ∧
      (after (watching 3) (.sampleReadComplete liftedSample)).mdc.device = .doze := by decide +kernel

theorem witness_CommandsReadBack :
    (Instr.timingGet 1).wellFormed = true ∧ commandCode (.timingGet 1) ≠ 0 ∧ State.reset.mdc.inReset = false ∧
      State.reset.smp.rx = [] ∧ 0 < State.reset.smp.freeEntries ∧ State.reset.smp.inbound.length < 8 := by
  decide +kernel

theorem witness_RecordsThatAreNotAccepted :
    classify 0xFF 1 [] = .unknown ∧ classify 0x11 1 [0] = .badLength ∧ classify 0x11 1 [] = .command (.timingGet 1) ∧
      ([] : List Byte).length ≤ 2048 ∧ (List.replicate 2048 (0 : Byte)).length ≤ 2048 ∧
      (let s := State.reset.withSmp { State.reset.smp with inbound := List.replicate 8 (.timingGet 1), reserved := 8 }
       8 ≤ s.smp.inbound.length ∧ 0 < s.smp.freeEntries ∧ s.mdc.inReset = false ∧ s.smp.rx = []) ∧
      (State.reset.withSmp { State.reset.smp with reserved := 16 }).smp.freeEntries = 0 ∧ (2 : Byte) ≠ 1 ∧
      (0 : W16) ≠ crc16 (recordBody 1 0x11 1 []) ∧ 2048 < (2049 : W16).toNat := by decide +kernel

theorem witness_ThePorts :
    (let s := State.reset.withSmp { State.reset.smp with rx := [0xC3, 0x3C], rxIdle := 1000 }
     s.mdc.inReset = false ∧ 2 ≤ s.smp.rx.length ∧ 1000 ≤ s.smp.rxIdle) ∧
      (let s := State.reset.withSmp { State.reset.smp with inbound := [.timingGet 1] }
       s.smp.interp = none ∧ s.smp.inbound = [.timingGet 1]) ∧
      sending.smp.sending = some notice ∧ notice.clears = false ∧
      (let s := sending.withSmp { sending.smp with notices := [.motion true 0 0] }
       s.smp.held = [] ∧ s.smp.notices ≠ []) := by decide +kernel

/-- The report slot of the frame with a report in it. -/
def frameReport : FrameReport := { fix := State.reset.fixAtWrap, draft := Draft.empty, fill := 0, replaced := 0 }

/-- Offers: with a record being sent, to sources with room and to full ones; and on a free lane. -/
theorem witness_ThePorts_offers :
    (sending.smp.sending ≠ none ∧ sending.smp.notices.length < 8 ∧ sending.mot.queue.length < 4 ∧
      sending.aud.uplink.length < 6 ∧ sending.smp.frameSlot = none) ∧
      (let r : MotionReport := { first := 1, samples := [], acc := { yaw := 0, pitch := 0, roll := 0 }, dropped := 0 }
       let b : MicBlock := { seq := 1, tbc := 0, samples := [], lostBefore := 0 }
       let s := ((sending.withSmp { sending.smp with
        notices := List.replicate 8 (.motion true 0 0), frameSlot := some frameReport }).withMot
          { sending.mot with queue := List.replicate 4 r }).withAud
          { sending.aud with uplink := List.replicate 6 b }
       s.smp.sending ≠ none ∧ 8 ≤ s.smp.notices.length ∧ s.mot.queue = r :: List.replicate 3 r ∧
         (List.replicate 3 r).length = 3 ∧ s.aud.uplink = b :: List.replicate 5 b ∧ (List.replicate 5 b).length = 5 ∧
         s.smp.frameSlot = some frameReport) ∧
      State.reset.smp.sending = none ∧ State.reset.hasRecord = false := by decide +kernel

/-- The reply of a STATUS READ_CLEAR being sent. -/
def clearing : State := after State.reset (.statusReadClear 1)

theorem witness_ReadClear :
    State.reset.Runs (.statusReadClear 1) ∧ State.reset.smp.subtraction = none ∧
      clearing.Runs (.statusReadClear 2) ∧ clearing.smp.subtraction = some Counters.zero ∧
      clearing.smp.sending.any Upstream.clears = true := by decide +kernel

/-- A state in the microsecond of a wrap. -/
def wrapping (s : State) : State := s.withFtb { s.ftb with fc := 11110, wrapDue := true }

/-- The part in STARTING, its panels on. -/
def starting : State :=
  { State.reset with
    mdc := { State.reset.mdc with device := .starting, modeTag := some 1, panel := .on },
    scn := { State.reset.scn with mode := .startPending } }

/-- The part in STOPPING, the stop request sent. -/
def stopping : State :=
  { inRun with
    mdc := { inRun.mdc with device := .stopping, modeTag := some 1 }, scn := { inRun.scn with mode := .stopPending } }

theorem witness_FrameWrap :
    (∀ s ∈ [State.reset, starting, inRun, stopping], (wrapping s).mdc.inReset = false ∧ (wrapping s).FrameSound ∧
      (wrapping s).wrapIsDue = true ∧ (wrapping s).endRequestIsDue = false) ∧
      starting.mdc.device = .starting ∧ starting.mdc.modeTag = some 1 ∧
      inRun.scn.frame = some State.reset.fixAtWrap ∧ inRun.scn.report = some Draft.empty ∧
      stopping.mdc.device = .stopping ∧ stopping.scn.frame = some State.reset.fixAtWrap ∧
      stopping.scn.report = some Draft.empty := by decide +kernel

theorem witness_Marks :
    (inRun.withFtb { inRun.ftb with fc := 300 }).markIsDue .ec2 = true ∧
      (inRun.withFtb { inRun.ftb with fc := 100 }).markIsDue .ec3 = true ∧
      (inRun.withFtb { inRun.ftb with fc := 10800 }).markIsDue .ec4 = true ∧ inRun.LaneFree := by decide +kernel

theorem witness_StrobeAndSync :
    (10500 < 11111 ∧ 0 < 1200 ∧ 1200 < 11111 ∧ 1200 / 2 ≤ 10500 ∧ 10500 - 1200 / 2 + 1200 ≤ 11111) ∧
      (300 < 1000 / 2 ∧ 11111 < 10500 - 2000 / 2 + 2000 ∧ 11111 ≤ 12000) ∧
      (let f : Ftb := { State.reset.ftb with pulse := Eyes.both (some { start := 100, stop := 200 }) }
       (State.reset.withFtb { f with fc := 100 }).strobeOnIsDue .left = true ∧
         (State.reset.withFtb { f with fc := 199 }).strobeOnIsDue .right = true ∧
         (State.reset.withFtb { f with fc := 200, strobe := Eyes.both true }).strobeOffIsDue .left = true ∧
         (State.reset.withFtb { f with fc := 150, cut := true, strobe := Eyes.both true }).strobeOffIsDue .left =
           true) ∧
      (let t : TimingSet := { TimingSet.default with syncTick := 5, syncWidth := 10 }
       let f : Ftb := { State.reset.ftb with live := t }
       (State.reset.withFtb { f with fc := 5 }).syncStartIsDue = true ∧
         (State.reset.withFtb { f with fc := 15, syncActive := true }).syncEndIsDue = true) := by decide +kernel

/-- Candidates of the staging transaction: one that is consistent and one that is not. -/
theorem witness_Staging :
    TimingSet.default.consistent = true ∧ ({ TimingSet.default with p := 8333 } : TimingSet).consistent = false ∧
      State.reset.Runs (.holdSet 1 16) ∧ State.reset.Runs (.laneSet 1
        { stray := true, policy := some 2, dReq := none, dMin := none, tWait := none, w := some 11111 }) := by
  decide +kernel

/-- EC5 armed on the rising edge. -/
def armed : State := State.reset.withFtb { State.reset.ftb with armed := true }

theorem witness_DataReady :
    armed.mdc.inReset = false ∧ armed.ftb.armed = true ∧ armed.ftb.edgeRising = true ∧ armed.ftb.slot = none ∧
      armed.mot.readsCaptures = false ∧
      (armed.withFtb { armed.ftb with slot := some 7 }).ftb.slot ≠ none ∧
      (let s := armed.withMot { armed.mot with state := .running }
       s.mot.readsCaptures = true ∧ s.mot.bus = none) := by decide +kernel

/-- A lane state outside a doze. -/
def lane (l : LaneState) (hold : Bool) (b : Burst) : State :=
  State.reset.withPlr { State.reset.plr with signal := true, lane := l, hold := hold, burst := b }

theorem witness_Lane :
    (State.reset.LaneFree ∧ State.reset.plr.lane = .down) ∧
      ((lane .training true .none).plr.lane = .training ∧ (lane .training true .none).trainingTimeoutIsDue = true) ∧
      (lane .active false (.slice 3)).plr.burst = .slice 3 ∧ (lane .active false .lost).plr.burst.isSlice = false ∧
      (lane .idle false .none).plr.lane = .idle ∧ (lane .waking true .none).wakingEndIsDue = true ∧
      (quiet.LaneFree ∧ quiet.mdc.device = .run ∧ quiet.plr.policy = true ∧ quiet.plr.lane = .active ∧
        quiet.plr.burst = .none ∧ quiet.slm.fills = false ∧ quiet.plr.lastEnd = some 5002900 ∧
        (quiet.plr.dReq : Int) ≤ (quiet.ftb.tbc - 5002900).toInt ∧ quiet.ftb.wrapDue = false ∧
        quiet.ftb.fc < quiet.ftb.live.p ∧
        quiet.plr.dMin ≤ (quiet.ftb.live.w + (quiet.ftb.live.p - quiet.ftb.fc)) % quiet.ftb.live.p) := by
  decide +kernel

/-- A lane ACTIVE with cell 0 FILLING. -/
def filling : State := (lane .active false (.slice 0)).withSlm (cells [some (slice .filling 7 0 0)])

/-- The same with cell 1 READY for its eye and index. -/
def superseding : State := filling.withSlm (cells [some (slice .filling 7 0 0), some (slice .ready 6 0 0)])

theorem witness_Bursts :
    (1 : Nat) ≤ 1 ∧ (1024 : Nat) ≤ 1024 ∧ (15 : Nat) < 16 ∧
      ((lane .active false .none).mdc.inReset = false ∧ (lane .active false .none).plr.lane = .active ∧
        (lane .active false .none).plr.burst = .none) ∧
      (filling.mdc.inReset = false ∧ filling.LaneFree ∧ filling.plr.lane = .active ∧ filling.plr.hold = false ∧
        filling.plr.burst = .slice 0 ∧ filling.slm.slice 0 = some (slice .filling 7 0 0) ∧
        filling.slm.readyCell .left 5 = none) ∧
      (superseding.slm.readyCell .left 5 = some 1 ∧ superseding.slm.slice 1 = some (slice .ready 6 0 0)) ∧
      ([0, 0, 0, 0] : List Byte).length = 4 * 1 ∧ (lane .active false (.audio 3 1)).plr.burst = .audio 3 1 ∧
      ((lane .active false (.audio 3 1)).withAud { State.reset.aud with playout := .priming }).aud.fill = 0 := by
  decide +kernel

/-- Headers at the bounds of R22: none, an unknown kind, a short one, eye 2, index 16, a wrong payload length, and 0
and 1,025 sample frames. -/
theorem witness_Bursts_malformed :
    (∀ h ∈ ([[], [0], [3], [1, 0, 0, 0, 0, 0, 0, 0, 0x8C, 0x0A], [1, 2, 0, 0, 0, 0, 0, 0, 0x8C, 0x0A, 0],
      [1, 0, 16, 0, 0, 0, 0, 0, 0x8C, 0x0A, 0], [1, 0, 0, 0, 0, 0, 0, 1, 0x8C, 0x0A, 0], [2, 0, 0, 1, 0, 4, 0, 0],
      [2, 0, 0, 0, 0, 0, 0, 0, 0], [2, 0, 0, 1, 4, 4, 16, 0, 0], [2, 0, 0, 1, 0, 5, 0, 0, 0]] : List (List Byte)),
      let byte (i : Nat) : Nat := (h.getD i 0).toNat
      let length (i : Nat) : Nat := byte i + 256 * byte (i + 1) + 65536 * byte (i + 2) + 16777216 * byte (i + 3)
      h = [] ∨ (byte 0 ≠ 1 ∧ byte 0 ≠ 2) ∨
        (byte 0 = 1 ∧ (h.length < 11 ∨ 1 < byte 1 ∨ 15 < byte 2 ∨ length 7 ≠ 691200)) ∨
        (byte 0 = 2 ∧ (h.length < 9 ∨ byte 3 + 256 * byte 4 = 0 ∨ 1024 < byte 3 + 256 * byte 4 ∨
          length 5 ≠ 4 * (byte 3 + 256 * byte 4)))) := by decide +kernel

/-- A burst's end under the doze hold, and on a lane that is not ACTIVE. -/
theorem witness_Bursts_ends :
    (let s := (lane .active true .lost).withMdc { State.reset.mdc with device := .dozeEntry }
     s.mdc.inReset = false ∧ s.plr.lane = .active ∧ s.plr.hold = true ∧ s.mdc.device = .dozeEntry ∧
       s.mdc.doneLane = false ∧ s.mdc.donePanels = false ∧ s.plr.burst = .lost) ∧
      (lane .training false .lost).plr.lane = .training ∧
      ((lane .waking false .lost).mdc.inReset = false ∧ (lane .waking false .lost).plr.lane = .waking) ∧
      (lane .idle false .none).plr.lane = .idle ∧ State.reset.plr.lane = .down := by decide +kernel

/-- Payloads and their four CRC bytes that pass the check of R23, and one that fails it. -/
theorem witness_Bursts_payload :
    (∃ payload crc : List Byte, payload.length = 691200 ∧ crc = le32 (crc32 payload)) ∧
      ([0, 0, 0, 0] : List Byte).length = 4 * 1 ∧ le32 (crc32 digits) = [0x26, 0x39, 0xF4, 0xCB] ∧
      ([0xCB, 0xF4, 0x39, 0x26] : List Byte) ≠ le32 (crc32 digits) :=
  ⟨⟨List.replicate 691200 0, le32 (crc32 (List.replicate 691200 0)), List.length_replicate, rfl⟩, rfl,
    by decide +kernel, by decide +kernel⟩

theorem witness_Takes :
    (let m := cells [some (slice .ready 1 0 0)]
     ∃ j < 40, ∃ y ∈ (m.slice j).toList, y.phase = .ready ∧ y.eye = .left ∧ y.index = 5) ∧
      (let m := cells [some (slice .retained 1 0 3), some (slice .retained 2 0 3)]
       m.readyCell .left 5 = none ∧ m.newest .left 5 = some 1 ∧ (slice .retained 2 0 3).hold < 2) ∧
      (2 : Nat) ≤ (slice .retained 2 2 3).hold ∧ (cells []).newest .left 5 = none := by decide +kernel

/-- A scanned frame at the take tick of slice 5 of eye L, and at the end request. -/
def taking (k fc : Nat) : State :=
  (inRun.withScn { inRun.scn with sched := Eyes.both (some k) }).withFtb { inRun.ftb with fc := fc }

theorem witness_TakesAndTheEndRequest :
    (taking 5 3300).takeIsDue .left 5 = true ∧ (taking 0 300).takeIsDue .right 0 = true ∧
      (taking 15 9300).takeIsDue .left 15 = true ∧ (taking 5 3300).scn.report = some Draft.empty ∧
      (taking 16 9900).endRequestIsDue = true ∧ (taking 5 3300).mdc.inReset = false ∧
      ((taking 5 3300).slm.resolve .left 5 2).1 = .blank := by decide +kernel

/-- Before the take of slice 5: slice 4 SCANNING, slices 5 and 6 READY. -/
def takeCells : Slm :=
  let x (ph : Phase) (k : Nat) : Option Slice := some { slice ph 7 0 0 with index := k }
  cells [x .scanning 4, x .ready 5, x .ready 6]

/-- The take of slice 5 with a late shift of 2 lines: its cell, and its neighbours of slices 4 and 6, which the take
pins (sections 2.4 and 2.5). -/
theorem witness_Takes_found :
    let s := ((taking 5 3300).withSlm takeCells).withMot { State.reset.mot with
      state := .running, ring := [entry 0 0 0, entry 1 0 100000] }
    let s := s.withFtb { s.ftb with live := shiftLive }
    let t := after s (.take .left 5)
    s.mdc.inReset = false ∧ s.takeIsDue .left 5 = true ∧ s.scn.report = some Draft.empty ∧
      ((takeCells.endWindow .left 0).resolve .left 5 2) = (.fresh, some 1) ∧
      ((takeCells.endWindow .left 0).slice 1).map (·.index) = some 5 ∧
      t.slm.cells.map (fun c => c.map (fun x => (x.phase, x.pinned))) =
        [some (.retained, true), some (.scanning, false), some (.ready, true)] ++ List.replicate 37 none := by
  decide +kernel

/-- A panel line that no window has written, and one of a band at the bounds of its shift. -/
theorem witness_Takes_panel :
    (State.reset.scn.panel.at .left)[1079 / 120]? = some none ∧
      (let b : Band := { index := 8, taken := none, above := none, below := none, shiftX := 0, shiftY := -120 }
       let n := State.reset.scn.write .left b
       (n.panel.at .left)[1079 / 120]? = some (some b) ∧ 0 < 1920 ∧ 1079 < 1920 ∧ b.index = 1079 / 120 ∧
         b.shiftY.natAbs ≤ 120) := by decide +kernel

theorem witness_LateShifts :
    TimingSet.default.shiftEnable = false ∧ shiftLive.shiftEnable = true ∧
      (State.reset.mot.state ≠ .running ∧ State.reset.mot.state ≠ .stalled) ∧
      (State.reset.mot.answerShift TimingSet.default 0 0).flags.stale = false ∧
      (({ State.reset.mot with state := .running } : Mot).answerShift shiftLive 0 0).flags.stale = true ∧
      (let m : Mot := { State.reset.mot with state := .running, ring := [entry 0 0 0, entry 1 0 100000] }
       m.ring.getLast? = some (entry 1 0 100000) ∧ ((entry 1 0 100000).seq - 0).toNat < m.ring.length ∧
         m.ring[m.ring.length - 1 - ((entry 1 0 100000).seq - 0).toNat]? = some (entry 0 0 0)) ∧
      (2 * (nearest 1 2 * 2 - 1).natAbs = 2 ∧ 2 * (nearest (-3) 2 * 2 - -3).natAbs = 2) := by decide +kernel

/-- Fields of a MOTION START that is accepted. -/
def startFields : MotionStartFields := { stray := false, rate := 1000, batch := 4, identity := 0x6A, edge := none }

theorem witness_MotionStart :
    State.reset.Runs (.motionStart 1 startFields) ∧ State.reset.mdc.device = .standby ∧ State.reset.mot.state = .off ∧
      inDoze.Runs (.motionStart 1 startFields) ∧
      (withMotion (fun m => { m with state := .running })).Runs (.motionStart 1 startFields) := by decide +kernel

/-- The bus with a finished transaction on it. -/
def onBus (k : TxKind) (wanted answers : Bool) (f : Mot → Mot) : State :=
  withMotion (fun m => f { m with bus := some (ran k wanted answers) })

theorem witness_Starting :
    (let s := onBus .identityRead true false (fun m =>
      { m with state := .starting, expected := some 0x6A, starting := some (1, false) })
     s.mdc.inReset = false ∧ s.mot.waiting = [] ∧ s.mot.bus = some (ran .identityRead true false) ∧
       s.mot.expected = some 0x6A ∧ s.mot.expected ≠ some 0x6B ∧ s.mot.starting = some (1, false)) ∧
      (onBus .configWrite true false id).mot.bus = some (ran .configWrite true false) ∧
      (onBus .configWrite false false id).mot.bus = some (ran .configWrite false false) ∧
      (onBus .identityRead false false id).mot.bus = some (ran .identityRead false false) ∧
      (let s := withMotion (fun m =>
        { m with state := .starting, firstLeft := some 0, starting := some (1, false), lastIdentity := some 0x6A })
       s.mot.bus = none ∧ s.firstSampleTimeoutIsDue = true ∧ s.mot.lastIdentity = some 0x6A) := by decide +kernel

/-- R61: a configuration write that was wanted at 1,000 Hz has written 1,000 Hz, whatever is recorded meanwhile. -/
theorem test_orphaned_write_keeps_its_rate :
    let s := onBus .configWrite false false (fun m =>
      { m with rate := 500, bus := some { ran .configWrite false false with rate := 1000 } })
    (after s .configWriteComplete).mot.sensor = .configured 1000 := by decide +kernel

theorem witness_ASample :
    let s (st : MotState) := onBus .sampleRead true false (fun m =>
      { m with
        state := st, reading := some ⟨100, false⟩, starting := if st = .starting then some (1, true) else none,
        lastIdentity := some 0x6A })
    ∀ st ∈ [MotState.running, .stalled, .starting, .dozeWatch],
      (s st).mdc.inReset = false ∧ (s st).mot.bus = some (ran .sampleRead true false) ∧
        (ran .sampleRead true false).kind = .sampleRead ∧ (ran .sampleRead true false).left = 0 ∧
        (s st).mot.reading = some ⟨100, false⟩ ∧ (s st).mot.state = st ∧ (s st).mdc.device ≠ .doze ∧
        (st = .starting → (s st).mot.starting = some (1, true)) ∧ (s st).mot.lastIdentity = some 0x6A := by
  decide +kernel

/-- A sample in DOZE: filter 0 is matched with a run count of 1, and with one of 3 its counter goes to 1. -/
theorem witness_ASample_watch :
    ((watching 1).mdc.inReset = false ∧ (watching 1).mot.bus = some (ran .sampleRead true false) ∧
      (watching 1).mot.reading = some ⟨100, false⟩ ∧ (watching 1).mot.state = .dozeWatch ∧
      (watching 1).mdc.device = .doze ∧ (watching 1).mot.accelRef = some { x := 0, y := 0, z := 2048 } ∧
      (watching 1).mot.filters.length = 4) ∧
      (watching 1).mot.filters = [lifted 1, filterOff, filterOff, filterOff] ∧
      (filterOff.enabled = false ∧ (lifted 1).enabled = true ∧
        ([0, 0, 0, 0, 0, 352] : List Int)[5]? = some 352 ∧ (lifted 1).axes.getLsbD 5 = true ∧
        (lifted 1).threshold < (352 : Int).natAbs) ∧
      ((lifted 1).runCount ≤ (lifted 1).counter + 1 ∧ ¬ (lifted 3).runCount ≤ (lifted 3).counter + 1) ∧
      (∀ i : Nat, (1 : Byte).getLsbD i = true ↔
        ∃ f, [lifted 1, filterOff, filterOff, filterOff][i]? = some f ∧ f.enabled = true) := by
  refine ⟨by decide +kernel, by decide +kernel, by decide +kernel, by decide +kernel, fun i => ?_⟩
  match i with
  | 0 => exact ⟨fun _ => ⟨_, rfl, rfl⟩, fun _ => rfl⟩
  | 1 | 2 | 3 => exact ⟨fun h => absurd h (by decide), fun ⟨f, h, e⟩ => by cases h; exact absurd e (by decide)⟩
  | n + 4 =>
    refine ⟨fun h => absurd (BitVec.lt_of_getLsbD h) ?_, fun ⟨f, h, _⟩ => by simp at h⟩
    intro hn
    match n with
    | 0 | 1 | 2 | 3 => exact absurd h (by decide)
    | n + 4 => omega

/-- R58: the first sample of a start gives RUNNING and the reply with the identity, the sequence and the capture. -/
theorem test_first_sample_reply :
    let s := onBus .sampleRead true false (fun m =>
      { m with state := .starting, reading := some ⟨100, false⟩, starting := some (1, true), lastIdentity := some 0x6A })
    let t := after s (.sampleReadComplete liftedSample)
    t.mot.state = .running ∧ answer t = some (0x30, .okClamped) ∧ answerData t = [0x6A, 1, 0, 100, 0, 0, 0] := by
  decide +kernel

/-- A calibration in flight, one sample short of its end. -/
def calibrating : Calibration :=
  { tag := 1, clamped := false, n := 256, stillness := 48, count := 255, sum := { x := 3200, y := -1152, z := 0 },
    least := { x := some 0, y := some 0, z := some 0 }, greatest := { x := some 0, y := some 0, z := some 0 } }

theorem witness_SensorWrites :
    (∀ k ∈ [TxKind.rateWatch, .rateRun, .powerDown], ∀ wanted ∈ [false, true], ∀ answers ∈ [false, true],
      let s := onBus k wanted answers (fun m => { m with waiting := [ran .powerDown true false] })
      s.mdc.inReset = false ∧ s.mot.bus = some (ran k wanted answers) ∧ (ran k wanted answers).left = 0 ∧
        (ran k wanted answers).kind = k) ∧
      (let s := withMotion (fun m =>
        { m with
          state := .running, stallLeft := some 0, cal := some calibrating,
          draft := some { first := 1, samples := [sample 0 0 0 0 0 0 0] } })
       s.mdc.inReset = false ∧ s.mot.state = .running ∧ s.mot.stallLeft = some 0) ∧
      State.reset.Runs (.motionStop 1) ∧ State.reset.mot.state = .off ∧
      (let s := onBus .sampleRead true false (fun m =>
        { m with
          state := .running, reading := some ⟨100, false⟩, cal := some calibrating,
          draft := some { first := 1, samples := [sample 0 0 0 0 0 0 0] }, waiting := [ran .rateWatch true true] })
       s.Runs (.motionStop 1) ∧ s.mot.state ≠ .off ∧ s.mot.bus = some (ran .sampleRead true false)) := by
  decide +kernel

/-- A sample with the same value on the three gyro axes. -/
def raw (v : W16) : RawSample := { gx := v, gy := v, gz := v, ax := 0, ay := 0, az := 0 }

theorem witness_MotionSettings :
    (let s := withMotion (fun m => { m with state := .running, cal := some calibrating })
     s.Runs (.biasSet 1 { stray := false, x := some 3000, y := none, z := none }) ∧ s.mot.cal.isSome = true) ∧
      State.reset.mot.cal = none ∧ (2 : Byte).toNat ≤ 2 ∧ 2 < (3 : Byte).toNat ∧ 3 < (4 : Byte).toNat := by
  decide +kernel

theorem witness_Calibrations :
    (let s := withMotion (fun m => { m with state := .running })
     s.mot.cal = none ∧ s.mot.state = .running ∧ s.mdc.device = .standby ∧
       s.Runs (.calibrate 1 { stray := false, n := 256, stillness := none })) ∧
      (let s := State.reset.withMot { State.reset.mot with cal := some calibrating }
       s.mot.cal = some calibrating) ∧ State.reset.mot.cal = none ∧
      ((48 : Int) < max 0 (raw 49).gx.toInt - min 0 (raw 49).gx.toInt ∧
        ¬ (48 : Int) < max 0 (raw 48).gx.toInt - min 0 (raw 48).gx.toInt) ∧
      calibrating.n ≤ calibrating.count + 1 ∧
      ({ calibrating with count := 3 } : Calibration).count + 1 < calibrating.n := by decide +kernel

/-- A block of one frame. -/
def block : AudioBlock := { tag := 1, samples := [{ l := 5, r := 6 }], consumed := 0 }

/-- An output period due. -/
def period (f : Aud → Aud) : State := State.reset.withAud (f { State.reset.aud with periodDue := true })

theorem witness_OutputPeriods :
    ((period id).aud.periodDue = true ∧ (period id).aud.ramp = none ∧ (period id).aud.playout = .stopped) ∧
      (period (fun a => { a with ramp := some { base := Stereo.zero, step := 31 } })).aud.periodDue = true ∧
      (let s := period (fun a => { a with playout := .priming })
       s.aud.ramp = none ∧ s.aud.powerFailHold = false ∧ s.aud.playout = .priming ∧ s.aud.fill < s.aud.prefill) ∧
      (let s := period (fun a => { a with playout := .playing, queue := [block] })
       s.aud.playout = .playing ∧ s.aud.queue = block :: [] ∧
         block.samples[block.consumed]? = some { l := 5, r := 6 }) ∧
      (let s := period (fun a => { a with playout := .playing })
       s.aud.playout = .playing ∧ s.aud.queue = []) := by decide +kernel

theorem witness_Microphone :
    (let s := State.reset.withAud { State.reset.aud with micDue := true, micRunning := true }
     s.mdc.inReset = false ∧ s.aud.micDue = true ∧ s.aud.micRunning = true ∧ s.aud.micDraft = none ∧
       1 < s.aud.blockSize) ∧
      (let d : MicDraft := { tbc := 0, size := 80, samples := List.replicate 79 0 }
       d.size ≤ d.samples.length + 1 ∧ ¬ d.samples.length + 1 < d.size) := by decide +kernel

theorem witness_AudioCommands :
    State.reset.Runs (.audioPlayStart 1) ∧ State.reset.aud.playout = .stopped ∧ inDoze.Runs (.micStart 1) ∧
      inDoze.mdc.device = .doze ∧
      (State.reset.withAud { State.reset.aud with playout := .playing }).Runs (.audioPlayStop 1) := by decide +kernel

/-- A conversion that has run its time. -/
def converting (kind : RoundKind) (input : Nat) : Round :=
  { kind := kind, input := input, first := 0, last := 7, left := 0, done := [] }

theorem witness_Conversions :
    (let s := State.reset.withMon { State.reset.mon with round := some (converting .frame 1) }
     s.mdc.inReset = false ∧ s.mon.round = some (converting .frame 1) ∧ (converting .frame 1).left = 0 ∧
       (converting .frame 1).input < (converting .frame 1).last ∧ s.mon.entries[1]? = some Entry.empty ∧
       s.mon.limits[1]? = some { low := none, high := none }) ∧
      (let s := State.reset.withMon { State.reset.mon with
        limits := State.reset.mon.limits.set 2 { low := some ⟨100, true⟩, high := some ⟨200, true⟩ } }
       s.mon.limits[2]? = some { low := some ⟨100, true⟩, high := some ⟨200, true⟩ } ∧
         (100 : Int) ≤ 200) := by decide +kernel

/-- The last conversion of a frame round, and of a ROUND ONE_SHOT. -/
theorem witness_Conversions_ends :
    (let v : Reading := { input := 0, value := 12000, tbc := 1 }
     let i : Reading := { input := 1, value := 300, tbc := 2 }
     let r := { converting .frame 7 with done := [v, i] }
     ∀ divider ∈ [0, 1, 2],
       let s := State.reset.withMon { State.reset.mon with round := some r, divider := divider }
       s.mdc.inReset = false ∧ s.mon.round = some r ∧ r.left = 0 ∧ r.input = 7 ∧ r.last = 7 ∧ r.kind = .frame ∧
         s.mon.entries[7]? = some Entry.empty ∧ r.done.find? (fun y => y.input = 0) = some v ∧
         r.done.find? (fun y => y.input = 1) = some i ∧ (∀ y ∈ r.done, y.input ≠ 7)) ∧
      (let r := converting .oneShot 7
       let s := State.reset.withMon { State.reset.mon with round := some r, oneShotTag := some 4 }
       s.mdc.inReset = false ∧ s.mon.round = some r ∧ r.left = 0 ∧ r.input = r.last ∧ r.kind = .oneShot ∧
         s.mon.oneShotTag = some 4 ∧ s.mon.entries[7]? = some Entry.empty) ∧
      (let r := converting .continuous 7
       let s := State.reset.withMon { State.reset.mon with round := some r, series := true }
       s.mdc.inReset = false ∧ s.mon.round = some r ∧ r.left = 0 ∧ r.input = r.last ∧ r.kind = .continuous ∧
         s.mon.entries[7]? = some Entry.empty) := by decide +kernel

/-- A monitor report offered on a free lane, to an empty slot, and to a slot with an unsent report. -/
theorem witness_Conversions_offers :
    let x (input : Nat) : MonItem :=
      { input := input, value := 5, tbc := some 1, least := some 4, greatest := none, overwritten := false }
    let r : MonReport := { kind := .frame, tbc := 1, items := [x 0, x 1] }
    (State.reset.smp.sending = none ∧ State.reset.hasRecord = false) ∧
      (sending.smp.sending ≠ none ∧ sending.smp.monSlot = none) ∧
      (let s := sending.withSmp { sending.smp with monSlot := some r }
       s.smp.sending ≠ none ∧ s.smp.monSlot = some r ∧ r.items[1]? = some (x 1) ∧ (∀ y ∈ r.items, y.input ≠ 2) ∧
         r.items.find? (fun y => y.input = (x 1).input) = some (x 1)) := by decide +kernel

/-- R122: the third frame round of a divider of 3 forms a report, and not the second. -/
theorem test_divider_forms_reports :
    let s (count : Nat) : State := State.reset.withMon { State.reset.mon with
      divider := 3, divCount := count, round := some (converting .frame 7) }
    ((after (s 1) (.conversionComplete 0)).mon.divCount = 2 ∧
      (after (s 1) (.conversionComplete 0)).smp.monSlot = none) ∧
      (after (s 2) (.conversionComplete 0)).mon.divCount = 0 ∧
      (after ((s 2).withSmp sending.smp) (.conversionComplete 0)).smp.monSlot.isSome = true := by decide +kernel

theorem witness_Rounds :
    (State.reset.Runs (.roundOneShot 1 0 0 7) ∧ State.reset.mon.round = none ∧ State.reset.mon.waiting = none ∧
      State.reset.mon.series = false ∧ inDoze.Runs (.roundContinuous 1 0 7)) ∧
      (7 : Byte).toNat ≤ 7 ∧ 7 < (8 : Byte).toNat ∧ 1 < (2 : Byte).toNat ∧
      sending.Runs (.monitorStop 1) ∧ sending.smp.sending ≠ none ∧
      (let s := sending.withMon { sending.mon with round := some (converting .oneShot 1), oneShotTag := some 4 }
       s.Runs (.monitorStop 1) ∧ s.mon.oneShotTag = some 4 ∧ s.mon.pendingFrame = false) ∧
      (let s := sending.withMon
        { sending.mon with round := some (converting .continuous 1), series := true, pendingFrame := true }
       s.Runs (.monitorStop 1) ∧ s.mon.pendingFrame = true ∧ s.mon.waiting = none) := by decide +kernel

/-- An item whose low limit lies above its high one, and one whose limits agree. -/
def item (low high : W16) : LimitItem := { input := 1, presence := 3, low := low, high := high }

theorem witness_MonitorSet :
    itemCrossed (item 5 4) = true ∧ itemCrossed (item 4 4) = false ∧ badItems [item 4 4] = false ∧
      badItems [item 4 4, item 5 5] = true ∧ badItems [{ item 4 4 with input := 8 }] = true ∧
      State.reset.mon.onDemand = false ∧
      (State.reset.withMon { State.reset.mon with series := true }).mon.onDemand = true := by decide +kernel

theorem witness_Governor :
    State.reset.gov.vuv ≤ 8000 ∧ 7999 < State.reset.gov.vuv ∧
      (State.reset.withGov { State.reset.gov with state := .powerFail }).gov.state = .powerFail ∧
      State.reset.gov.ts < State.reset.gov.tLim ∧ 0 < 12000 ∧ 0 < governed.p ∧ 0 < governed.iPk ∧
      ((governor .normal).evaluate governed 1200 12000 400 350 0).wLimit = 968 ∧
      (governor .shedding).wFloor + (governor .shedding).wFloor / 4 = 250 := by decide +kernel

theorem witness_GovernorSettings :
    State.reset.Runs (.allowanceSet 1 30001) ∧
      State.reset.Runs (.limitsSet 1
        { stray := false, rs := none, vuv := none, wFloor := none, ts := some 430, tLim := none }) ∧
      answer (after State.reset (.limitsSet 1
        { stray := false, rs := none, vuv := none, wFloor := none, ts := some 430, tLim := none })) =
          some (0x56, .conflict) := by decide +kernel

theorem witness_Mode :
    starting.Runs (.modeRun 1 0) ∧ starting.mdc.device = .starting ∧ State.reset.Runs (.modeRun 1 4) ∧
      inRun.Runs (.modeStandby 1) ∧ inRun.mdc.device = .run ∧ inRun.scn.mode = .scanning ∧
      inDoze.Runs (.modeWake 1) ∧ inDoze.mdc.device = .doze ∧ inDoze.mdc.prior = some .run ∧
      State.reset.mdc.device = .standby ∧ State.reset.gov.state ≠ .powerFail := by decide +kernel

theorem witness_Panels :
    (let s := State.reset.withMdc { State.reset.mdc with device := .starting, panel := .powering }
     s.mdc.inReset = false ∧ s.mdc.panelLeft = 0 ∧ s.mdc.panel = .powering) ∧
      (let s := State.reset.withMdc
        { State.reset.mdc with device := .stopping, panel := .poweringDown, modeTag := some 1 }
       s.mdc.panelLeft = 0 ∧ s.mdc.panel = .poweringDown ∧ s.mdc.device = .stopping ∧ s.mdc.modeTag = some 1) ∧
      (let s := State.reset.withMdc { State.reset.mdc with device := .dozeEntry, panel := .poweringDown }
       s.mdc.panelLeft = 0 ∧ s.mdc.panel = .poweringDown ∧ s.mdc.device = .dozeEntry) ∧
      (let s := inRun.withMdc { inRun.mdc with autoDoze := true, offHead := some 30000000 }
       s.mdc.inReset = false ∧ s.mdc.offHead = some 30000000 ∧ 1000000 * s.mdc.delay ≤ 30000000) ∧
      (inRun.mdc.proximityHigh ≠ true ∧ inRun.mdc.device = .run) ∧
      (inDoze.mdc.proximityHigh ≠ true ∧ inDoze.mdc.device = .doze ∧ true = inDoze.mdc.onHigh) ∧
      (State.reset.mdc.proximityHigh ≠ true ∧ State.reset.mdc.device ≠ .run ∧ State.reset.mdc.device ≠ .doze) := by
  decide +kernel

/-- The last strand of a doze entry and of a wake, with and without a MODE command waiting; a doze entry from RUN and
from STANDBY; a wake; and the Motion Unit in each of the states its orders name. -/
theorem witness_DozeEntryAndWake :
    (∀ tag ∈ [none, some (1 : Byte)],
      let s := State.reset.withMdc { State.reset.mdc with
        device := .dozeEntry, donePanels := true, doneAudio := true, doneMotion := true, doneLane := true,
        modeTag := tag }
      s.mdc.device = .dozeEntry ∧ s.mdc.donePanels = true ∧ s.mdc.doneAudio = true ∧ s.mdc.doneMotion = true ∧
        s.mdc.doneLane = true ∧ s.mdc.modeTag = tag) ∧
      (∀ kind ∈ [WakeKind.motionFilter, .proximity, .command],
        let s := State.reset.withMdc { State.reset.mdc with
          device := .waking, prior := some .run, donePanels := true, doneMotion := true, doneLane := true,
          modeTag := if kind = .command then some 1 else none, wakeKind := some kind }
        s.mdc.prior = some .run ∧ s.mdc.device = .waking ∧ s.mdc.donePanels = true ∧ s.mdc.doneMotion = true ∧
          s.mdc.doneLane = true ∧ s.mdc.wakeKind = some kind ∧
          s.mdc.modeTag = if kind = .command then some 1 else none) ∧
      inRun.mdc.device = .run ∧ State.reset.mdc.device = .standby ∧ inDoze.mdc.device = .doze ∧
      (∀ st ∈ [MotState.off, .starting, .running, .stalled, .dozeWatch],
        let s := withMotion (fun m => { m with state := st, starting := if st = .starting then some (1, false) else none })
        s.mot.state = st ∧ (st = .starting → s.mot.starting = some (1, false))) := by decide +kernel

/-- R141, R144: a doze from RUN with the sensor at speed, strand by strand, and the wake from it. -/
theorem test_doze_and_wake_strands :
    let s := (inRun.withMot { inRun.mot with state := .running, ring := [entry 0 0 0] })
    let t := after s (.modeDoze 5)
    (t.mdc.device = .dozeEntry ∧ t.mdc.doneAudio = true ∧ t.mdc.doneLane = true ∧ t.mdc.doneMotion = false ∧
      t.mot.ring = [] ∧ t.mot.bus.map (·.kind) = some .rateWatch ∧ t.mot.bus.map (·.rate) = some 100) ∧
      (after (t.withMot { t.mot with bus := t.mot.bus.map (fun x => { x with left := 0 }) })
        .rateWriteComplete).mdc.doneMotion = true ∧
      (let w := after inDoze (.modeWake 6)
       w.mdc.device = .waking ∧ w.mdc.panel = .powering ∧ w.mdc.panelLeft = 20000 ∧ w.plr.hold = false ∧
         w.mdc.wakeRecord.map (·.kind) = some .command) := by decide +kernel

theorem witness_Autodoze :
    State.reset.Runs (.modeAutodoze 1 { stray := false, autoDoze := some 1, delay := some 61, polarity := none }) ∧
      State.reset.mdc.device ≠ .run ∧ State.reset.Runs (.modeGet 1) ∧ State.reset.Runs (.wakesourceClear 1) := by
  decide +kernel

end Sys2Proof.Tests
end

