-- ==== Sys2Proof/Proofs/Reads.lean ====
section
/-! MOTION GET, BIAS GET, WAKEFILTER GET and AUDIO GET: each executes as a bare answer, and the data of its reply has the
layout of section 10.6. -/

namespace Sys2Proof.Machine

/-! ## The commands that only answer -/

/-- MOTION GET only answers (R60). -/
theorem exec_motionGet {s : State} {tag : Byte} (h : s.Runs (.motionGet tag)) :
    exec (.motionGet tag) s = .next (s.answering (.motionGet tag) .ok s.motionData) :=
  execute_reply (data := State.motionData) h

/-- BIAS GET only answers (R70). -/
theorem exec_biasGet {s : State} {tag : Byte} (h : s.Runs (.biasGet tag)) :
    exec (.biasGet tag) s = .next (s.answering (.biasGet tag) .ok (biasBytes s.mot.bias)) :=
  execute_reply (data := fun s => biasBytes s.mot.bias) h

/-- WAKEFILTER GET only answers (R77). -/
theorem exec_wakefilterGet {s : State} {tag : Byte} (h : s.Runs (.wakefilterGet tag)) :
    exec (.wakefilterGet tag) s =
      .next (s.answering (.wakefilterGet tag) .ok (s.mot.filters.flatMap WakeFilter.bytes)) :=
  execute_reply (data := fun s => s.mot.filters.flatMap WakeFilter.bytes) h

/-- AUDIO GET only answers (R112). -/
theorem exec_audioGet {s : State} {tag : Byte} (h : s.Runs (.audioGet tag)) :
    exec (.audioGet tag) s = .next (s.answering (.audioGet tag) .ok s.audioData) :=
  execute_reply (data := State.audioData) h

/-! ## The flag bytes of their replies (section 10.6) -/

/-- The flags of MOTION GET: the history ring has an oldest entry exactly where it is not empty (R60). -/
theorem motionFlags_eq (m : Mot) :
    packBits [m.expected.isSome, m.lastIdentity.isSome, m.integrated, m.ring.head?.isSome, m.cal.isSome] =
      (if m.expected.isSome then 1 else 0) ||| (if m.lastIdentity.isSome then 2 else 0) |||
        (if m.integrated then 4 else 0) ||| (if !m.ring.isEmpty then 8 else 0) ||| (if m.cal.isSome then 16 else 0) := by
  have hring : m.ring.head?.isSome = !m.ring.isEmpty := by cases m.ring <;> rfl
  rw [packBits_5, hring]

/-- The flags of AUDIO GET (R112). -/
theorem audioFlagByte_eq (a : Aud) :
    a.flagByte =
      (if a.underrun then 1 else 0) ||| (if a.ramp.isSome then 2 else 0) ||| (if a.powerFailHold then 4 else 0) |||
        (if a.micRunning then 8 else 0) ||| (if !a.queue.isEmpty then 16 else 0) |||
        (if a.micDraft.isSome then 32 else 0) :=
  packBits_6 ..

end Sys2Proof.Machine

section Settled
open Sys2Proof Sys2Proof.Machine

/-- Settles O45: each command only answers, and its data is the layout of section 10.6 once the flag byte is read bit
by bit. -/
theorem motionAndAudioReads : Obligations.MotionAndAudioReads := by
  refine ⟨fun s tag => ⟨fun h => ?motion, exec_biasGet, exec_wakefilterGet⟩, fun s tag h => ?audio⟩
  case motion =>
    rw [exec_motionGet h, State.motionData, motionFlags_eq]
    simp only [biasBytes, angleBytes, boolByte, List.append_assoc]
  case audio =>
    rw [exec_audioGet h, State.audioData, audioFlagByte_eq]
    rfl

end Settled
end

section
/-! Slice Memory: what the searches through its table find, and what an allocation and a take come to (R27, R28, R31). -/

namespace Sys2Proof.Machine

/-! ## Cells by number -/

/-- A slice stands in a numbered cell exactly where the table holds it there. -/
theorem slice_eq_some_iff {m : Slm} {i : Nat} {x : Slice} : m.slice i = some x ↔ m.cells[i]? = some (some x) := by
  unfold Slm.slice
  cases m.cells[i]? <;> simp [Option.join]

/-- A slice stands in a cell of the table. -/
theorem lt_length_of_slice {m : Slm} {i : Nat} {x : Slice} (h : m.slice i = some x) : i < m.cells.length :=
  (List.getElem?_eq_some_iff.1 (slice_eq_some_iff.1 h)).1

@[simp] theorem length_setCell (m : Slm) (i : Nat) (c : Option Slice) :
    (m.setCell i c).cells.length = m.cells.length := by simp [Slm.setCell]

theorem slice_setCell_same {m : Slm} {i : Nat} (c : Option Slice) (h : i < m.cells.length) :
    (m.setCell i c).slice i = c := by simp [Slm.slice, Slm.setCell, h]

theorem slice_setCell_other {m : Slm} {i j : Nat} (c : Option Slice) (h : j ≠ i) :
    (m.setCell i c).slice j = m.slice j := by simp [Slm.slice, Slm.setCell, List.getElem?_set_ne h.symm]

@[simp] theorem length_forget (m : Slm) (i : Nat) : (m.forget i).cells.length = m.cells.length := rfl
@[simp] theorem slice_forget (m : Slm) (i j : Nat) : (m.forget i).slice j = m.slice j := rfl

/-! ## The searches -/

/-- The lowest-numbered FREE cell (R27). -/
theorem freeCell_some {m : Slm} {i : Nat} (h : m.freeCell = some i) :
    i < m.cells.length ∧ m.slice i = none ∧ ∀ j < i, m.slice j ≠ none := by
  obtain ⟨hi, hfree, hmin⟩ := List.findIdx?_eq_some_iff_getElem.1 h
  refine ⟨hi, ?_, fun j hj => ?_⟩
  · simpa [Slm.slice, hi] using hfree
  · have := hmin j hj
    simpa [Slm.slice, hj.trans hi] using this

/-- With no FREE cell every cell holds a slice. -/
theorem freeCell_none {m : Slm} (h : m.freeCell = none) {j : Nat} (hj : j < m.cells.length) : m.slice j ≠ none := by
  have := List.findIdx?_eq_none_iff.1 h m.cells[j] (List.getElem_mem hj)
  simpa [Slm.slice, hj, Option.isSome_iff_ne_none] using this

/-- A cell holds a slice in a phase for an eye and index. -/
theorem holds_iff {ph : Phase} {e : Eye} {k : Nat} {c : Option Slice} :
    holds ph e k c = true ↔ ∃ x, c = some x ∧ x.phase = ph ∧ x.eye = e ∧ x.index = k := by
  cases c <;> simp [holds, and_assoc]

/-- The READY cell found is READY for the eye and index (R30). -/
theorem readyCell_some {m : Slm} {e : Eye} {k i : Nat} (h : m.readyCell e k = some i) :
    ∃ x, m.slice i = some x ∧ x.phase = .ready ∧ x.eye = e ∧ x.index = k := by
  obtain ⟨hi, hp, -⟩ := List.findIdx?_eq_some_iff_getElem.1 h
  obtain ⟨x, hx, hr⟩ := holds_iff.1 hp
  exact ⟨x, by simp [Slm.slice, hi, hx], hr⟩

/-- With none found, no cell is READY for the eye and index. -/
theorem readyCell_none {m : Slm} {e : Eye} {k : Nat} (h : m.readyCell e k = none) {j : Nat} {x : Slice}
    (hx : m.slice j = some x) : ¬ (x.phase = .ready ∧ x.eye = e ∧ x.index = k) := by
  intro hr
  have hm : some x ∈ m.cells := List.mem_of_getElem? (slice_eq_some_iff.1 hx)
  have := List.findIdx?_eq_none_iff.1 h _ hm
  rw [holds_iff.2 ⟨x, rfl, hr⟩] at this
  cases this

/-! ## The best cell a test takes -/

/-- One more cell at the end of the table. -/
theorem bestCell_concat (p : Slice → Bool) (better : Nat → Nat → Bool) (cells : List (Option Slice))
    (c : Option Slice) :
    bestCell p better (cells ++ [c]) =
      match c with
      | none => bestCell p better cells
      | some x =>
        if p x then
          match bestCell p better cells with
          | none => some (cells.length, x.age)
          | some b => if better x.age b.2 then some (cells.length, x.age) else bestCell p better cells
        else bestCell p better cells := by
  unfold bestCell
  rw [List.zipIdx_append, List.foldl_append]
  cases c with
  | none => simp
  | some x => rw [Nat.zero_add]; rfl

/-- The test finds no cell exactly where it takes none. -/
theorem bestCell_none {p : Slice → Bool} {better : Nat → Nat → Bool} {cells : List (Option Slice)}
    (h : bestCell p better cells = none) {j : Nat} {y : Slice} (hj : cells[j]? = some (some y)) : p y = false := by
  induction cells using List.reverseRecOn with
  | nil => simp at hj
  | append_singleton cells c ih =>
    rw [bestCell_concat] at h
    rcases Nat.lt_or_ge j cells.length with hlt | hge
    · rw [List.getElem?_append_left hlt] at hj
      refine ih ?_ hj
      cases c with
      | none => exact h
      | some x => dsimp only at h; repeat' split at h
                  all_goals simp_all
    · rw [List.getElem?_append_right hge] at hj
      obtain rfl : c = some y := by
        cases hn : j - cells.length <;> simp_all
      by_contra hp
      dsimp only at h; repeat' split at h
      all_goals simp_all

/-- A cell with an age is the best that a test takes: it is better than those before it, and none after it is better
than it. -/
def BestAt (p : Slice → Bool) (better : Nat → Nat → Bool) (cells : List (Option Slice)) (i age : Nat) : Prop :=
  ∃ x, cells[i]? = some (some x) ∧ p x = true ∧ x.age = age ∧
    ∀ (j : Nat) (y : Slice), cells[j]? = some (some y) → p y = true →
      (j < i → better age y.age = true) ∧ (i < j → better y.age age = false)

/-- The cell found is the best one, where the comparison is transitive and total. -/
theorem bestCell_some {p : Slice → Bool} {better : Nat → Nat → Bool}
    (trans : ∀ a b c, better a b → better b c → better a c)
    (total : ∀ a b c, better a b → better c b = false → better a c)
    {cells : List (Option Slice)} {i age : Nat} (h : bestCell p better cells = some (i, age)) :
    BestAt p better cells i age := by
  induction cells using List.reverseRecOn generalizing i age with
  | nil => simp [bestCell] at h
  | append_singleton cells c ih =>
    -- the cells of the longer table are those of the shorter one and the last
    have old {j y} (hj : (cells ++ [c])[j]? = some (some y)) :
        (j < cells.length ∧ cells[j]? = some (some y)) ∨ (j = cells.length ∧ c = some y) := by
      rcases Nat.lt_or_ge j cells.length with hlt | hge
      · exact .inl ⟨hlt, by rwa [List.getElem?_append_left hlt] at hj⟩
      · rw [List.getElem?_append_right hge] at hj
        cases hn : j - cells.length with
        | zero => exact .inr ⟨by omega, by simpa [hn] using hj⟩
        | succ _ => simp [hn] at hj
    -- the best cell so far stays the best where the last cell is not better
    have stays (hb : bestCell p better cells = some (i, age))
        (hc : ∀ y, c = some y → p y = true → better y.age age = false) : BestAt p better (cells ++ [c]) i age := by
      obtain ⟨x, hx, hp, ha, hbest⟩ := ih hb
      have hi : i < cells.length := (List.getElem?_eq_some_iff.1 hx).1
      refine ⟨x, by rwa [List.getElem?_append_left hi], hp, ha, fun j y hj hy => ?_⟩
      rcases old hj with ⟨-, hold⟩ | ⟨rfl, hlast⟩
      · exact hbest j y hold hy
      · exact ⟨fun hlt => absurd hlt (by omega), fun _ => hc y hlast hy⟩
    rw [bestCell_concat] at h
    cases c with
    | none => exact stays h (by simp)
    | some z =>
      dsimp only at h
      split at h
      · next hz =>
        -- the last cell becomes the best one
        have last (hbest : ∀ (j : Nat) y, cells[j]? = some (some y) → p y = true → better z.age y.age = true)
            (hi : (cells.length, z.age) = (i, age)) : BestAt p better (cells ++ [some z]) i age := by
          obtain ⟨rfl, rfl⟩ := Prod.mk.inj hi
          refine ⟨z, by simp, hz, rfl, fun j y hj hy => ?_⟩
          rcases old hj with ⟨hlt, hold⟩ | ⟨rfl, -⟩
          · exact ⟨fun _ => hbest j y hold hy, fun hgt => absurd hgt (by omega)⟩
          · exact ⟨fun hlt => absurd hlt (lt_irrefl _), fun hgt => absurd hgt (lt_irrefl _)⟩
        split at h
        · next hn =>
          exact last (fun j y hj hy => by rw [bestCell_none hn hj] at hy; cases hy) (Option.some.inj h)
        · next b hb =>
          split at h
          · next hbetter =>
            obtain ⟨w, -, -, -, hbest⟩ := ih hb
            refine last (fun j y hj hy => ?_) (Option.some.inj h)
            rcases Nat.lt_trichotomy j b.1 with hlt | heq | hgt
            · exact trans _ _ _ hbetter ((hbest j y hj hy).1 hlt)
            · obtain ⟨w, hw, -, ha, -⟩ := ih hb
              obtain rfl : w = y := by rw [heq, hw] at hj; simpa using hj
              rwa [ha]
            · exact total _ _ _ hbetter ((hbest j y hj hy).2 hgt)
          · next hworse =>
            rw [hb] at h
            obtain rfl := Option.some.inj h
            exact stays hb (by rintro y ⟨⟩ -; simpa using hworse)
      · next hz => exact stays h (by rintro y ⟨⟩ hy; exact absurd hy hz)

/-- The oldest RETAINED cell that is not pinned, the lowest-numbered among equal ages (R27, R28). -/
theorem oldest_some {m : Slm} {i : Nat} (h : m.oldest = some i) :
    ∃ x, m.slice i = some x ∧ x.phase = .retained ∧ x.pinned = false ∧
      ∀ j y, m.slice j = some y → y.phase = .retained → y.pinned = false →
        y.age ≤ x.age ∧ (y.age = x.age → i ≤ j) := by
  obtain ⟨⟨i', age⟩, hb, rfl⟩ := Option.map_eq_some_iff.1 h
  obtain ⟨x, hx, hp, rfl, hbest⟩ := bestCell_some (fun a b c => by simp; omega) (fun a b c => by simp; omega) hb
  simp only [Bool.and_eq_true, decide_eq_true_eq, Bool.not_eq_true'] at hp
  refine ⟨x, slice_eq_some_iff.2 hx, hp.1, hp.2, fun j y hj hr hn => ?_⟩
  obtain ⟨before, after⟩ := hbest j y (slice_eq_some_iff.1 hj) (by simp [hr, hn])
  simp only [decide_eq_true_eq, decide_eq_false_iff_not] at before after
  rcases Nat.lt_trichotomy j i' with hlt | rfl | hgt
  · have := before hlt; omega
  · obtain rfl : x = y := by rw [slice_eq_some_iff.1 hj] at hx; simpa using hx.symm
    exact ⟨le_refl _, fun _ => le_refl _⟩
  · have := after hgt; omega

/-- With none found, no RETAINED cell is unpinned. -/
theorem oldest_none {m : Slm} (h : m.oldest = none) {j : Nat} {y : Slice} (hj : m.slice j = some y) :
    ¬ (y.phase = .retained ∧ y.pinned = false) := by
  have := bestCell_none (Option.map_eq_none_iff.1 h) (slice_eq_some_iff.1 hj)
  simpa using this

/-- The newest RETAINED cell of an eye and index, the highest-numbered among equal ages (R28, R31). -/
theorem newest_some {m : Slm} {e : Eye} {k i : Nat} (h : m.newest e k = some i) :
    ∃ x, m.slice i = some x ∧ x.phase = .retained ∧ x.eye = e ∧ x.index = k ∧
      ∀ j y, m.slice j = some y → y.phase = .retained → y.eye = e → y.index = k →
        x.age ≤ y.age ∧ (y.age = x.age → j ≤ i) := by
  obtain ⟨⟨i', age⟩, hb, rfl⟩ := Option.map_eq_some_iff.1 h
  obtain ⟨x, hx, hp, rfl, hbest⟩ := bestCell_some (fun a b c => by simp; omega) (fun a b c => by simp; omega) hb
  simp only [Bool.and_eq_true, decide_eq_true_eq, and_assoc] at hp
  obtain ⟨hr, he, hk⟩ := hp
  refine ⟨x, slice_eq_some_iff.2 hx, hr, he, hk, fun j y hj hyr hye hyk => ?_⟩
  obtain ⟨before, after⟩ := hbest j y (slice_eq_some_iff.1 hj) (by simp [hyr, hye, hyk])
  simp only [decide_eq_true_eq, decide_eq_false_iff_not] at before after
  rcases Nat.lt_trichotomy j i' with hlt | rfl | hgt
  · have := before hlt; omega
  · obtain rfl : x = y := by rw [slice_eq_some_iff.1 hj] at hx; simpa using hx.symm
    exact ⟨le_refl _, fun _ => le_refl _⟩
  · have := after hgt; omega

/-- With none found, no cell is RETAINED for the eye and index. -/
theorem newest_none {m : Slm} {e : Eye} {k : Nat} (h : m.newest e k = none) {j : Nat} {y : Slice}
    (hj : m.slice j = some y) : ¬ (y.phase = .retained ∧ y.eye = e ∧ y.index = k) := by
  have := bestCell_none (Option.map_eq_none_iff.1 h) (slice_eq_some_iff.1 hj)
  simpa [and_assoc] using this

/-! ## Allocations (R27) -/

/-- An allocation fills the lowest FREE cell, or with none FREE the oldest unpinned RETAINED one. -/
theorem allocate_some {m m' : Slm} {e : Eye} {k i : Nat} {tag ref : W16} (h : m.allocate e k tag ref = some (i, m')) :
    i < m.cells.length ∧ m'.cells.length = m.cells.length ∧
      m'.slice i = some (Slice.filling e k tag ref) ∧ (∀ j, j ≠ i → m'.slice j = m.slice j) ∧
      ((m.slice i = none ∧ ∀ j < i, m.slice j ≠ none) ∨ (m.freeCell = none ∧ m.oldest = some i)) := by
  unfold Slm.allocate at h
  split at h
  · next j hf =>
    obtain ⟨rfl, rfl⟩ := Prod.mk.inj (Option.some.inj h)
    obtain ⟨hi, hfree, hmin⟩ := freeCell_some hf
    exact ⟨hi, length_setCell .., slice_setCell_same _ hi, fun j hj => slice_setCell_other _ hj, .inl ⟨hfree, hmin⟩⟩
  · next hf =>
    split at h
    · next j ho =>
      obtain ⟨rfl, rfl⟩ := Prod.mk.inj (Option.some.inj h)
      obtain ⟨x, hx, -⟩ := oldest_some ho
      have hi := lt_length_of_slice hx
      exact ⟨hi, by simp, slice_setCell_same (m := m.forget j) _ hi,
        fun j' hj => by rw [slice_setCell_other _ hj, slice_forget], .inr ⟨hf, ho⟩⟩
    · cases h

/-- An allocation is refused only with no FREE cell and no unpinned RETAINED one. -/
theorem allocate_none {m : Slm} {e : Eye} {k : Nat} {tag ref : W16} (h : m.allocate e k tag ref = none) :
    m.freeCell = none ∧ m.oldest = none := by
  unfold Slm.allocate at h
  repeat' split at h
  all_goals simp_all

end Sys2Proof.Machine

section Settled
open Sys2Proof Sys2Proof.Machine

/-- Settles O33: the cases of `allocate_some`, with what the two searches find. -/
theorem allocationTakesAFreeOrTheOldestCell : Obligations.AllocationTakesAFreeOrTheOldestCell := by
  intro m e k tag ref
  refine ⟨fun i m' h => ?taken, fun h j hj => ?refused⟩
  case taken =>
    obtain ⟨hi, -, hfill, hother, hfree | ⟨hnone, hold⟩⟩ := allocate_some h
    · exact ⟨hi, .inl hfree, hfill, hother⟩
    · exact ⟨hi, .inr ⟨fun j hj => freeCell_none hnone hj, oldest_some hold⟩, hfill, hother⟩
  case refused =>
    obtain ⟨hnone, hold⟩ := allocate_none h
    obtain ⟨y, hy⟩ := Option.ne_none_iff_exists'.1 (freeCell_none hnone hj)
    exact ⟨y, hy, oldest_none hold hy⟩

/-- Settles O34: the READY cell first, then the newest RETAINED one by its hold count. -/
theorem takesFollowTheirTable : Obligations.TakesFollowTheirTable := by
  intro m e k hold ready retained newest
  -- with no READY cell the newest RETAINED one decides
  have unready (h : ∀ j, ¬ ready j) : m.readyCell e k = none := by
    cases hr : m.readyCell e k with
    | none => rfl
    | some i => obtain ⟨x, hx⟩ := readyCell_some hr; exact absurd ⟨x, hx⟩ (h i)
  have isNewest {i x} (h : newest i x) : m.newest e k = some i := by
    obtain ⟨⟨hx, hr, he, hk⟩, hmin⟩ := h
    cases hn : m.newest e k with
    | none => exact absurd ⟨hr, he, hk⟩ (newest_none hn hx)
    | some j =>
      obtain ⟨y, hy, hyr, hye, hyk, hbest⟩ := newest_some hn
      have h1 := hmin j y ⟨hy, hyr, hye, hyk⟩
      have h2 := hbest i x hx hr he hk
      simp only [Option.some.injEq]; omega
  refine ⟨fun ⟨j, x, hx, hr⟩ => ?fresh, fun i x hn hx hh => ?held, fun i x hn hx hh => ?full, fun hn hr => ?blank⟩
  case fresh =>
    cases hc : m.readyCell e k with
    | none => exact absurd hr (readyCell_none hc hx)
    | some i => exact ⟨i, readyCell_some hc, by simp [Slm.resolve, hc]⟩
  case held => simp [Slm.resolve, unready hn, isNewest hx, hx.1.1, hh]
  case full => simp [Slm.resolve, unready hn, isNewest hx, hx.1.1, hh]
  case blank =>
    have none : m.newest e k = none := by
      cases hc : m.newest e k with
      | none => rfl
      | some i => obtain ⟨x, hx, h1, h2, h3, -⟩ := newest_some hc; exact absurd ⟨hx, h1, h2, h3⟩ (hr i x)
    simp [Slm.resolve, unready hn, none]

end Settled
end

section
/-! What a step of the part can do, said once: every event and every command is a chain of elementary updates of the
blocks. Each update names what it may do to the fields that the invariants of Safety.lean speak of, so that an
invariant is kept by every step once it is kept by every elementary update. -/

namespace Sys2Proof.Machine

/-! ## The soundness of one block -/

/-- `State.MotionSound` of the Motion Unit alone. -/
def Mot.Sound (m : Mot) : Prop :=
  m.ring.length ≤ 128 ∧ ringSound m.ring m.seq ∧
    m.residue.yaw < 1000000 ∧ m.residue.pitch < 1000000 ∧ m.residue.roll < 1000000 ∧
    (-2048 ≤ m.bias.x ∧ m.bias.x ≤ 2047) ∧ (-2048 ≤ m.bias.y ∧ m.bias.y ≤ 2047) ∧
    (-2048 ≤ m.bias.z ∧ m.bias.z ≤ 2047) ∧ 1 ≤ m.batch ∧ m.batch ≤ 8 ∧
    m.draft.all (fun d => 0 < d.samples.length && d.samples.length < 8) ∧ m.queue.length ≤ 4 ∧
    m.queue.all (fun r => 0 < r.samples.length && r.samples.length ≤ 8) ∧ m.filters.length = 4

/-- What `State.DeferredSound` says of the Motion Unit: a start belongs to STARTING, a wanted rate write to a Motion
Unit that has started. -/
def Mot.Deferred (m : Mot) : Prop :=
  (m.starting.isSome → m.state = .starting) ∧
    (m.bus.any Tx.rateWanted ∨ m.waiting.any Tx.rateWanted →
      m.state = .running ∨ m.state = .stalled ∨ m.state = .dozeWatch)

/-- `State.AudioSound` of the Audio Unit alone. -/
def Aud.Sound (a : Aud) : Prop :=
  a.queue.length ≤ 16 ∧ a.fill ≤ 4096 ∧ a.queue.all (fun b => b.consumed < b.samples.length) ∧
    (a.playout = .stopped → a.queue = [] ∧ !a.underrun) ∧
    a.ramp.all (fun r => 1 ≤ r.step && r.step ≤ 32) ∧ a.uplink.length ≤ 6 ∧
    a.micDraft.all (fun d => d.samples.length < d.size && d.size ≤ 960) ∧
    a.gainL ≤ 256 ∧ a.gainR ≤ 256 ∧ 48 ≤ a.prefill ∧ a.prefill ≤ 4096 ∧ 80 ≤ a.blockSize ∧ a.blockSize ≤ 960

/-- `State.MonitorSound` of the Supply Monitor. -/
def Mon.Sound (m : Mon) : Prop :=
  m.entries.length = 8 ∧ m.limits.length = 8 ∧ m.limits.all WatchLimits.ordered ∧
    m.round.all Round.sound ∧ m.waiting.all (fun w => w.first ≤ w.last && w.last ≤ 7) ∧
    m.divider ≤ 255 ∧ (m.divider = 0 → m.divCount = 0) ∧ (0 < m.divider → m.divCount < m.divider)

/-- What `State.DeferredSound` says of the Supply Monitor: a ROUND ONE_SHOT in flight runs, or waits behind a frame
round. -/
def Mon.Deferred (m : Mon) : Prop :=
  m.oneShotTag.isSome → !m.series ∧
    ((m.round.any (fun r => r.kind = .oneShot) ∧ m.waiting = none) ∨
      (m.round.any (fun r => r.kind = .frame) ∧ m.waiting.any (fun w => w.kind = .oneShot)))

/-- `State.GovernorSound` of the Power Governor. -/
def Gov.Sound (g : Gov) : Prop :=
  (g.state = .shedding → g.cap = 128) ∧ (g.state = .normal ∨ g.state = .limiting → g.cap = 256) ∧
    (g.cap = 128 ∨ g.cap = 256) ∧ g.recovery < 3 ∧ (g.state ≠ .powerFail → g.recovery = 0) ∧
    g.allowance ≤ 30000 ∧ g.rs ≤ 2000 ∧ 6500 ≤ g.vuv ∧ g.vuv ≤ 14000 ∧ g.wFloor ≤ 2000 ∧ g.ts < g.tLim ∧ g.tLim ≤ 1000

theorem motionSound_iff (s : State) : s.MotionSound ↔ s.mot.Sound := Iff.rfl
theorem audioSound_iff (s : State) : s.AudioSound ↔ s.aud.Sound ∧ s.plr.burst.countSound = true := by
  simp only [State.AudioSound, Aud.Sound, and_assoc]
theorem monitorSound_iff (s : State) : s.MonitorSound ↔ s.mon.Sound := Iff.rfl
theorem governorSound_iff (s : State) : s.GovernorSound ↔ s.gov.Sound := Iff.rfl
theorem deferredSound_iff (s : State) : s.DeferredSound ↔
    (s.mdc.modeTag.isSome → s.mdc.device.moving) ∧ s.mot.Deferred ∧ s.mon.Deferred := by
  simp only [State.DeferredSound, Mot.Deferred, Mon.Deferred, and_assoc]

/-! ## What an update of one block may do -/

/-- An update of the Frame Timebase that leaves its clock, both timing sets, the cut and the strobe outputs. -/
structure Ftb.Quiet (f x : Ftb) : Prop where
  tbc : x.tbc = f.tbc
  fc : x.fc = f.fc
  wrapDue : x.wrapDue = f.wrapDue
  fs : x.fs = f.fs
  live : x.live = f.live
  staged : x.staged = f.staged
  cut : x.cut = f.cut
  strobe : x.strobe = f.strobe

/-- An update of the Picture Lane Receiver: a slice burst on an ACTIVE lane stays in progress there, and a burst that
the update begins is no slice burst. -/
structure Plr.Moves (p x : Plr) : Prop where
  slice : p.lane = .active → p.burst.isSlice = true → x.lane = .active ∧ x.burst = p.burst
  burst : x.burst = p.burst ∨ (x.burst.isSlice = false ∧ x.burst.countSound = true)

/-- What becomes of one cell at a TBC when no fill begins or ends: a slice found in it was in it before, with its eye
and index; it is FILLING as it was, READY only if it was, and RETAINED as it was or since this TBC. -/
structure CellMoves (tbc : W32) (c d : Option Slice) : Prop where
  came : ∀ y, d = some y → ∃ x, c = some x ∧ y.eye = x.eye ∧ y.index = x.index ∧
    (y.phase = .filling → x.phase = .filling) ∧ (y.phase = .ready → x.phase = .ready) ∧
    (y.phase = .retained → (x.phase = .retained ∧ y.age = x.age ∧ y.scanEnd = x.scanEnd) ∨
      (y.age = 0 ∧ y.scanEnd = some tbc))
  fills : ∀ x, c = some x → x.phase = .filling → ∃ y, d = some y ∧ y.phase = .filling

/-- An update of Slice Memory that begins and ends no fill. -/
structure Slm.Moves (tbc : W32) (m x : Slm) : Prop where
  length : x.cells.length = m.cells.length
  cell : ∀ i, CellMoves tbc (m.slice i) (x.slice i)

/-- An update of the Motion Unit that neither takes nor answers a command and leaves the report queue. -/
structure Mot.Moves (m x : Mot) : Prop where
  queue : x.queue = m.queue
  starting : x.starting.isSome = m.starting.isSome
  cal : x.cal.isSome = m.cal.isSome
  sound : m.Sound → x.Sound
  deferred : m.Deferred → x.Deferred

/-- An update of the Audio Unit that leaves the hold and the uplink queue. -/
structure Aud.Moves (a x : Aud) : Prop where
  hold : x.powerFailHold = a.powerFailHold
  uplink : x.uplink = a.uplink
  sound : a.Sound → x.Sound

/-- An update of the Supply Monitor that neither takes nor answers a command. -/
structure Mon.Moves (m x : Mon) : Prop where
  tag : x.oneShotTag.isSome = m.oneShotTag.isSome
  sound : m.Sound → x.Sound
  deferred : m.Deferred → x.Deferred

/-- An update of the Power Governor that neither enters nor leaves POWER_FAIL. -/
structure Gov.Moves (g x : Gov) : Prop where
  fail : x.state = .powerFail ↔ g.state = .powerFail
  sound : g.Sound → x.Sound

/-- An update of the Mode Controller that leaves the deferred MODE, and its transition if it has one. -/
structure Mdc.Moves (m x : Mdc) : Prop where
  tag : x.modeTag = m.modeTag
  moving : m.modeTag.isSome → m.device.moving → x.device.moving

/-! ## The elementary updates -/

/-- One elementary update of the part, and the number of replies that the command in execution still owes before and
after it: a claim takes one on, a reply or a deferral discharges one. The passing of time, frame wraps and resets are
not among them. -/
inductive Update : State × Nat → State × Nat → Prop
  | pending {s n} (q : List Instr) : Update (s, n) (s.withPending q, n)
  -- the Frame Timebase
  | ftb {s n} (x : Ftb) : s.ftb.Quiet x → Update (s, n) (s.withFtb x, n)
  | stage {s n} (t : TimingSet) : t.consistent = true → (s.ftb.staged.InRange → t.InRange) →
      Update (s, n) (s.withFtb { s.ftb with staged := t }, n)
  | strobe {s n} (e : Eye) (on : Bool) : (on = true → s.ftb.cut = false) → Update (s, n) (s.setStrobe e on, n)
  -- the picture lane and Slice Memory
  | plr {s n} (x : Plr) : s.plr.Moves x → Update (s, n) (s.withPlr x, n)
  | slm {s n} (x : Slm) : s.slm.Moves s.ftb.tbc x → Update (s, n) (s.withSlm x, n)
  | fill {s n i m} (e : Eye) (k : Nat) (tag ref : W16) : s.plr.lane = .active → s.plr.burst = .none → k < 16 →
      s.slm.allocate e k tag ref = some (i, m) →
      Update (s, n) ((s.withSlm m).withPlr { s.plr with burst := .slice i }, n)
  | complete {s n i} (payload : List Byte) : s.plr.burst = .slice i →
      Update (s, n) ((s.withSlm (s.slm.complete i s.ftb.tbc payload).1).withPlr { s.plr with burst := .none }, n)
  | breakFill {s n i} : s.plr.burst = .slice i →
      Update (s, n) ((s.withSlm (s.slm.breakFill i)).withPlr { s.plr with burst := .none }, n)
  -- the other blocks
  | scn {s n} (x : Scn) : Update (s, n) (s.withScn x, n)
  | mot {s n} (x : Mot) : s.mot.Moves x → Update (s, n) (s.withMot x, n)
  | aud {s n} (x : Aud) : x.powerFailHold = s.aud.powerFailHold → x.uplink = s.aud.uplink →
      (s.AudioSound → x.Sound) → Update (s, n) (s.withAud x, n)
  | mon {s n} (x : Mon) : s.mon.Moves x → Update (s, n) (s.withMon x, n)
  | gov {s n} (x : Gov) : s.gov.Moves x → Update (s, n) (s.withGov x, n)
  | enterPowerFail {s n} (g : Gov) (a : Aud) : g.state = .powerFail → (s.gov.Sound → g.Sound) →
      a.powerFailHold = true → a.uplink = s.aud.uplink → (s.aud.Sound → a.Sound) →
      Update (s, n) (((s.withGov g).withFtb s.ftb.cutStrobe).withAud a, n)
  | leavePowerFail {s n} (g : Gov) (a : Aud) : g.state ≠ .powerFail → (s.gov.Sound → g.Sound) →
      a.powerFailHold = false → a.uplink = s.aud.uplink → (s.aud.Sound → a.Sound) →
      Update (s, n) ((s.withGov g).withAud a, n)
  | mdc {s n} (x : Mdc) : s.mdc.Moves x → Update (s, n) (s.withMdc x, n)
  -- the port
  | count {s n} (k : Counter) (c : Nat) : Update (s, n) (s.count k c, n)
  | rx {s n} (bytes : List Byte) (idle : Nat) : Update (s, n) (s.withSmp { s.smp with rx := bytes, rxIdle := idle }, n)
  | subtraction {s n} : Update (s, n) (s.withSmp { s.smp with subtraction := some s.smp.counters }, n)
  | recordSent {s n} : Update (s, n) (s.recordSent, n)
  | notify {s n} (x : Notice) : Update (s, n) (s.notify x, n)
  | offerMotion {s n} (x : Mot) (r : MotionReport) : s.mot.Moves x →
      (s.mot.Sound → 0 < r.samples.length ∧ r.samples.length ≤ 8) → Update (s, n) ((s.withMot x).offerMotion r, n)
  | offerMic {s n} (b : MicBlock) : Update (s, n) (s.offerMic b, n)
  | offerFrame {s n} (r : FrameReport) : Update (s, n) (s.offerFrame r, n)
  | offerMonitor {s n} (r : MonReport) : Update (s, n) (s.offerMonitor r, n)
  -- commands taken, begun, claimed and answered
  | answerAtReception {s n} (code tag : Byte) (st : Status) : Update (s, n) (s.answerAtReception code tag st, n)
  | offerCommand {s n} (code tag : Byte) (c : Instr) : Update (s, n) (s.offerCommand code tag c, n)
  | beginCommand {s n} : s.smp.interp = none → Update (s, n) (s.beginCommand, n)
  | claim {s t n} (c : Instr) : s.claim c = some t → Update (s, n) (t, n + 1)
  | reply {s n} (r : Reply) : Update (s, n + 1) (s.makeReply r, n)
  | deferMode {s n} (x : Mdc) : s.mdc.device.moving = false → x.device.moving = true → x.modeTag.isSome →
      Update (s, n + 1) (s.withMdc x, n)
  | answerMode {s n} (x : Mdc) (r : Reply) : s.mdc.modeTag.isSome → x.modeTag = none →
      Update (s, n) ((s.withMdc x).makeReply r, n)
  | deferStart {s n} (x : Mot) : s.mot.state = .off → x.starting.isSome → x.queue = s.mot.queue →
      x.cal = s.mot.cal → (s.mot.Sound → x.Sound) → (s.mot.Deferred → x.Deferred) →
      Update (s, n + 1) (s.withMot x, n)
  | answerStart {s n} (x : Mot) (r : Reply) : s.mot.starting.isSome → x.starting = none → x.queue = s.mot.queue →
      x.cal = s.mot.cal → (s.mot.Sound → x.Sound) → (s.mot.Deferred → x.Deferred) →
      Update (s, n) ((s.withMot x).makeReply r, n)
  | deferCalibration {s n} (c : Calibration) : s.mot.cal = none →
      Update (s, n + 1) (s.withMot { s.mot with cal := some c }, n)
  | answerCalibration {s n} (b : Axes Int) (r : Reply) : s.mot.cal.isSome →
      (s.mot.Sound → ({ s.mot with bias := b } : Mot).Sound) →
      Update (s, n) ((s.withMot { s.mot with cal := none, bias := b }).makeReply r, n)
  | deferRound {s n} (x : Mon) : s.mon.onDemand = false → x.oneShotTag.isSome → (s.mon.Sound → x.Sound) →
      x.Deferred → Update (s, n + 1) (s.withMon x, n)
  | answerRound {s n} (x : Mon) (r : Reply) : s.mon.oneShotTag.isSome → x.oneShotTag = none →
      (s.mon.Sound → x.Sound) → Update (s, n) ((s.withMon x).makeReply r, n)

/-- A chain of elementary updates. -/
abbrev Updates : State × Nat → State × Nat → Prop := Relation.ReflTransGen Update

/-- A chain of updates after a first one. -/
theorem Updates.after {a b c : State × Nat} (t : Updates b c) (h : Update a b) : Updates a c := .head h t

/-- One update is a chain. -/
theorem Update.alone {a b : State × Nat} (h : Update a b) : Updates a b := .single h

/-- What every elementary update keeps, a chain keeps. -/
theorem Updates.keeps {Q : State × Nat → Prop} (h : ∀ a b, Update a b → Q a → Q b) {a b : State × Nat}
    (c : Updates a b) (ha : Q a) : Q b := by
  induction c with
  | refl => exact ha
  | tail _ u ih => exact h _ _ u ih

end Sys2Proof.Machine
end

section
/-! The chains of updates of the operations that the blocks share: notes and replies, the Mode Controller's orders and
the answers to them, the sensor bus, the endings of motion work, doze entry and wake. -/

namespace Sys2Proof.Machine

/-! ## Block updates that are always admissible -/

theorem Ftb.Quiet.refl (f : Ftb) : f.Quiet f := ⟨rfl, rfl, rfl, rfl, rfl, rfl, rfl, rfl⟩

theorem Mot.Moves.trans {a b c : Mot} (h : a.Moves b) (k : b.Moves c) : a.Moves c :=
  ⟨k.queue.trans h.queue, k.starting.trans h.starting, k.cal.trans h.cal, k.sound ∘ h.sound, k.deferred ∘ h.deferred⟩

/-- A Motion Unit that differs only in fields that no invariant speaks of. -/
theorem Mot.Moves.of_eq {m x : Mot} (hs : m.Sound → x.Sound) (hq : x.queue = m.queue) (hc : x.cal = m.cal)
    (hst : x.starting = m.starting) (hd : x.state = m.state) (hb : x.bus = m.bus) (hw : x.waiting = m.waiting) :
    m.Moves x :=
  ⟨hq, by rw [hst], by rw [hc], hs, by simp only [Mot.Deferred, hst, hd, hb, hw]; exact id⟩

/-- An update of the Audio Unit, as an elementary update. -/
theorem Aud.Moves.update {s : State} {x : Aud} (h : s.aud.Moves x) (n : Nat) : Update (s, n) (s.withAud x, n) :=
  .aud x h.hold h.uplink fun hs => h.sound ((audioSound_iff s).1 hs).1

/-- An update of the Mode Controller that leaves the device state and the deferred MODE. -/
theorem Mdc.Moves.of_eq {m x : Mdc} (ht : x.modeTag = m.modeTag) (hd : x.device = m.device) : m.Moves x :=
  ⟨ht, fun _ h => hd ▸ h⟩

/-- An update of the Mode Controller that begins or continues a transition. -/
theorem Mdc.Moves.of_moving {m x : Mdc} (ht : x.modeTag = m.modeTag) (hd : x.device.moving = true) : m.Moves x :=
  ⟨ht, fun _ _ => hd⟩

/-- An update of the Mode Controller with no deferred MODE. -/
theorem Mdc.Moves.of_none {m x : Mdc} (hm : m.modeTag = none) (ht : x.modeTag = none) : m.Moves x :=
  ⟨ht.trans hm.symm, fun h => by simp [hm] at h⟩

/-- An update of the Picture Lane Receiver that leaves the lane and the burst. -/
theorem Plr.Moves.of_eq {p x : Plr} (hl : x.lane = p.lane) (hb : x.burst = p.burst) : p.Moves x :=
  ⟨fun h _ => ⟨hl.trans h, hb⟩, .inl hb⟩

/-- An update that keeps the burst on a lane that is not ACTIVE, or has no slice burst. -/
theorem Plr.Moves.of_lane {p x : Plr} (h : p.lane ≠ .active ∨ p.burst.isSlice = false) (hb : x.burst = p.burst) :
    p.Moves x :=
  ⟨fun ha hs => by rcases h with h | h <;> simp_all, .inl hb⟩

/-- An update that gives a burst that is no slice burst to such a lane. -/
theorem Plr.Moves.of_burst {p x : Plr} (h : p.lane ≠ .active ∨ p.burst.isSlice = false) (hb : x.burst.isSlice = false)
    (hc : x.burst.countSound = true) : p.Moves x :=
  ⟨fun ha hs => by rcases h with h | h <;> simp_all, .inr ⟨hb, hc⟩⟩

/-! ## Notes and replies -/

theorem note_updates (s : State) (n : Nat) (k : Counter) : Updates (s, n) (s.note k, n) :=
  Updates.after (Update.alone (.scn _)) (.count k 1)

theorem replyTo_updates (s : State) (n : Nat) (code tag : Byte) (st : Status) (data : List Byte) :
    Updates (s, n + 1) (s.replyTo code tag st data, n) := Update.alone (.reply _)

/-! ## The Mode Controller -/

theorem refreshOffHead_updates (s : State) (n : Nat) : Updates (s, n) (s.refreshOffHead, n) :=
  Update.alone (.mdc _ (.of_eq rfl rfl))

/-- A deferred MODE is answered in the state that the Mode Controller has reached. -/
theorem answerMode_updates (s : State) (n : Nat) (x : Mdc) (tag : Byte) (b : Bool) (h : s.mdc.modeTag.isSome) :
    Updates (s, n) ((s.withMdc x).answerMode tag b, n) :=
  Update.alone (.answerMode { x with modeTag := none } _ h rfl)

theorem finishDoze_updates (s : State) (n : Nat) : Updates (s, n) (s.finishDoze, n) := by
  unfold State.finishDoze
  split
  · dsimp only
    split
    · next tag ht => exact answerMode_updates s n _ _ _ (by rw [show s.mdc.modeTag = some tag from ht]; rfl)
    · next ht => exact Updates.after (Update.alone (.notify _)) (.mdc _ (.of_none ht ht))
  · exact .refl

theorem finishWaking_updates (s : State) (n : Nat) : Updates (s, n) (s.finishWaking, n) := by
  unfold State.finishWaking
  split
  · dsimp only
    refine Relation.ReflTransGen.trans (b := (_, n)) ?_ (refreshOffHead_updates _ n)
    split
    · next tag ht => exact answerMode_updates s n _ _ _ (by rw [show s.mdc.modeTag = some tag from ht]; rfl)
    · next ht _ => exact Updates.after (Update.alone (.notify _)) (.mdc _ (.of_none ht ht))
    · next ht _ => exact Update.alone (.mdc _ (.of_none ht ht))
  · exact .refl

theorem motionAnswer_updates (s : State) (n : Nat) : Updates (s, n) (s.motionAnswer, n) :=
  Updates.after ((finishDoze_updates _ n).trans (finishWaking_updates _ n))
    (.mdc { s.mdc with doneMotion := true } (.of_eq rfl rfl))

theorem laneAnswer_updates (s : State) (n : Nat) : Updates (s, n) (s.laneAnswer, n) := by
  unfold State.laneAnswer
  split
  · exact Updates.after (finishDoze_updates _ n) (.mdc _ (.of_eq rfl rfl))
  · split
    · exact Updates.after (finishWaking_updates _ n) (.mdc _ (.of_eq rfl rfl))
    · exact .refl

/-- Scanning has begun: a start ends in RUN, a wake goes on (R135, R144). -/
theorem scanningBegun_updates (s : State) (n : Nat) : Updates (s, n) (s.scanningBegun, n) := by
  unfold State.scanningBegun
  split
  · dsimp only
    refine Relation.ReflTransGen.trans (b := (_, n)) ?_ (refreshOffHead_updates _ n)
    split
    · next tag ht => exact answerMode_updates s n _ _ _ (by rw [show s.mdc.modeTag = some tag from ht]; rfl)
    · next ht => exact Update.alone (.mdc _ (.of_none ht ht))
  · split
    · exact Updates.after (finishWaking_updates _ n) (.mdc _ (.of_eq rfl rfl))
    · exact .refl

theorem scanningStopped_updates (s : State) (n : Nat) : Updates (s, n) (s.scanningStopped, n) := by
  unfold State.scanningStopped
  split
  · exact Update.alone (.mdc _ (.of_eq rfl rfl))
  · exact .refl

/-! ## The picture lane -/

/-- The hold moves the lane only where no burst is in progress (R142). -/
theorem underHold_moves {p x : Plr} (h : p.Moves x) : p.Moves x.underHold := by
  unfold Plr.underHold
  split
  · next hc =>
    refine ⟨fun ha hs => ?_, h.burst⟩
    obtain ⟨-, hb⟩ := h.slice ha hs
    simp only [Bool.and_eq_true, decide_eq_true_eq] at hc
    rw [← hb, hc.2] at hs
    cases hs
  · exact h

/-- The lane becomes ACTIVE from a state in which it fills no slice (R137, R142). -/
theorem laneActive_updates (s : State) (n : Nat) (h : s.plr.lane ≠ .active) : Updates (s, n) (s.laneActive, n) :=
  Updates.after (laneAnswer_updates _ n) (.plr _ (underHold_moves (.of_lane (.inl h) rfl)))

/-! ## The sensor bus (R61) -/

theorem want_moves (m : Mot) (k : TxKind) (answers : Bool)
    (h : (k = .rateWatch ∨ k = .rateRun) → m.state = .running ∨ m.state = .stalled ∨ m.state = .dozeWatch) :
    m.Moves (m.want k answers) := by
  rw [want_eq]
  refine ⟨rfl, rfl, rfl, id, fun ⟨hst, hb⟩ => ⟨hst, ?_⟩⟩
  rintro hr
  by_cases hk : k = .rateWatch ∨ k = .rateRun
  · exact h hk
  · refine hb ?_
    cases hm : m.bus <;> simp_all [Tx.rateWanted]

theorem busNext_moves (m : Mot) : m.Moves m.busNext := by
  rw [busNext_eq]
  refine ⟨rfl, rfl, rfl, id, fun ⟨hst, hb⟩ => ⟨hst, ?_⟩⟩
  rintro hr
  refine hb (.inr ?_)
  cases hm : m.waiting <;> simp_all

theorem abandonRead_updates (s : State) (n : Nat) : Updates (s, n) (s.abandonRead, n) := by
  unfold State.abandonRead
  split
  · exact Updates.after (Update.alone (.ftb _ (by constructor <;> rfl)))
      (.mot _ ((busNext_moves _).trans (.of_eq id rfl rfl rfl rfl rfl rfl)))
  · exact .refl

/-- MOT returns to OFF once its start, if any, has been answered (R58, R59, R74). -/
theorem motionOff_updates (s : State) (n : Nat) (answers : Bool) (h : s.mot.starting = none) :
    Updates (s, n) (s.motionOff answers, n) := by
  unfold State.motionOff
  refine Updates.after (Update.alone (.ftb _ (by constructor <;> rfl))) (.mot _ ?_)
  refine ⟨?_, ?_, ?_, ?_, ?_⟩
  all_goals simp only [want_eq]
  · rfl
  · rfl
  · rfl
  · exact id
  · refine fun _ => ⟨fun hs => ?_, ?_⟩
    · simp [Mot.orphan, h] at hs
    · cases hb : s.mot.bus <;> simp [Mot.orphan, Tx.rateWanted, hb]

/-! ## The endings of motion work -/

theorem Mot.Sound.withDraft_none {m : Mot} (h : m.Sound) : ({ m with draft := none } : Mot).Sound := by
  unfold Mot.Sound at h ⊢; simp_all

/-- A Motion Unit whose report under assembly is dropped. -/
theorem dropDraft_moves (m : Mot) : m.Moves { m with draft := none } :=
  ⟨rfl, rfl, rfl, Mot.Sound.withDraft_none, id⟩

/-- The samples of a report under assembly. -/
theorem Mot.Sound.draft_length {m : Mot} (h : m.Sound) {d : MotionDraft} (hd : m.draft = some d) :
    0 < d.samples.length ∧ d.samples.length < 8 := by
  obtain ⟨-, -, -, -, -, -, -, -, -, -, h, -⟩ := h
  simpa [hd] using h

theorem completeDraft_updates (s : State) (n : Nat) : Updates (s, n) (s.completeDraft, n) := by
  unfold State.completeDraft
  split
  · exact .refl
  · next d hd =>
    dsimp only
    split
    · exact Update.alone (.mot _ (dropDraft_moves _))
    · refine Update.alone (.offerMotion _ _ (dropDraft_moves _) fun h => ?_)
      obtain ⟨h0, h8⟩ := h.draft_length hd
      exact ⟨h0, h8.le⟩

theorem abortCalibration_updates (s : State) (n : Nat) : Updates (s, n) (s.abortCalibration, n) := by
  unfold State.abortCalibration
  split
  · exact .refl
  · next c hc => exact Update.alone (.answerCalibration s.mot.bias _ (by rw [hc]; rfl) id)

theorem abortStart_updates (s : State) (n : Nat) : Updates (s, n) (s.abortStart, n) := by
  unfold State.abortStart
  split
  · exact .refl
  · next tag b hc =>
    exact Update.alone (.answerStart _ _ (by rw [hc]; rfl) rfl rfl rfl id fun h => ⟨by simp, h.2⟩)

theorem abortStart_starting (s : State) : s.abortStart.mot.starting = none := by
  unfold State.abortStart
  split
  · assumption
  · simp

theorem abandonRead_starting (s : State) : s.abandonRead.mot.starting = s.mot.starting := by
  unfold State.abandonRead
  split
  · simp [busNext_eq]
  · rfl

theorem abandonRead_state (s : State) : s.abandonRead.mot.state = s.mot.state := by
  unfold State.abandonRead
  split
  · simp [busNext_eq]
  · rfl

theorem completeDraft_state (s : State) : s.completeDraft.mot.state = s.mot.state := by
  obtain ⟨-, -, -, q, h⟩ := completeDraft_frame s; rw [h]

theorem completeDraft_starting (s : State) : s.completeDraft.mot.starting = s.mot.starting := by
  obtain ⟨-, -, -, q, h⟩ := completeDraft_frame s; rw [h]

theorem abortCalibration_state (s : State) : s.abortCalibration.mot.state = s.mot.state := by
  rw [abortCalibration_eq]; split <;> rfl

theorem abortCalibration_starting (s : State) : s.abortCalibration.mot.starting = s.mot.starting := by
  rw [abortCalibration_eq]; split <;> rfl

/-- Clearing the run counters keeps the four filters. -/
theorem clearRuns_moves (m : Mot) : m.Moves m.clearRuns :=
  .of_eq (by simp [Mot.Sound, Mot.clearRuns]) rfl rfl rfl rfl rfl rfl

/-- An empty ring is a run of samples of any sequence number. -/
theorem Mot.Sound.withRing_nil {m : Mot} (h : m.Sound) : ({ m with ring := [] } : Mot).Sound := by
  unfold Mot.Sound at h ⊢; simp_all [ringSound]

/-- What a doze order leaves of a Motion Unit at work (R74). -/
theorem dozeOrder_moves (m : Mot) (ref : Option (Axes W16)) (h : m.state = .running ∨ m.state = .stalled) :
    m.Moves (({ m.clearRuns with accelRef := ref, ring := [], prevTbc := none, stallLeft := none } : Mot).want
      .rateWatch true) := by
  have emptied : m.clearRuns.Moves
      { m.clearRuns with accelRef := ref, ring := [], prevTbc := none, stallLeft := none } :=
    .of_eq Mot.Sound.withRing_nil rfl rfl rfl rfl rfl rfl
  refine ((clearRuns_moves m).trans emptied).trans (want_moves _ _ _ fun _ => ?_)
  exact h.imp_right .inl

theorem motionDoze_updates (s : State) (n : Nat) : Updates (s, n) (s.motionDoze, n) := by
  have working (h : s.mot.state = .running ∨ s.mot.state = .stalled) (ref : Option (Axes W16)) :
      let t := s.abandonRead.completeDraft.abortCalibration
      Updates (s, n) (t.withMot
        (({ t.mot.clearRuns with accelRef := ref, ring := [], prevTbc := none, stallLeft := none } : Mot).want
          .rateWatch true), n) := by
    have hs : s.abandonRead.completeDraft.abortCalibration.mot.state = s.mot.state := by
      rw [abortCalibration_state, completeDraft_state, abandonRead_state]
    exact ((abandonRead_updates s n).trans ((completeDraft_updates _ n).trans (abortCalibration_updates _ n))).trans
      (Update.alone (.mot _ (dozeOrder_moves _ _ (hs ▸ h))))
  unfold State.motionDoze
  split
  · exact motionAnswer_updates s n
  · exact motionAnswer_updates s n
  · exact (abortStart_updates s n).trans ((abandonRead_updates _ n).trans (motionOff_updates _ n true
      ((abandonRead_starting _).trans (abortStart_starting s))))
  · next h => exact working (.inl h) _
  · next h => exact working (.inr h) _

theorem motionWake_updates (s : State) (n : Nat) : Updates (s, n) (s.motionWake, n) := by
  unfold State.motionWake
  split
  · next h => exact Update.alone (.mot _ (want_moves _ _ _ fun _ => .inr (.inr h)))
  · exact motionAnswer_updates s n

/-! ## Audio stops -/

theorem startRamp_moves (a : Aud) : a.Moves a.startRamp := by
  unfold Aud.startRamp
  cases h : a.ramp with
  | some r => exact ⟨rfl, rfl, id⟩
  | none => exact ⟨rfl, rfl, by simp [Aud.Sound, Aud.fill]; tauto⟩

theorem Aud.Moves.trans {a b c : Aud} (h : a.Moves b) (k : b.Moves c) : a.Moves c :=
  ⟨k.hold.trans h.hold, k.uplink.trans h.uplink, k.sound ∘ h.sound⟩

theorem playStop_moves (a : Aud) : a.Moves a.playStop := by
  unfold Aud.playStop
  split
  · exact ⟨rfl, rfl, id⟩
  · have emptied : a.Moves { a with queue := [], underrun := false, playout := .stopped } := by
      refine ⟨rfl, rfl, ?_⟩
      simp [Aud.Sound, Aud.fill]
    exact emptied.trans (startRamp_moves _)

theorem micStop_moves (a : Aud) : a.Moves a.micStop := by
  refine ⟨rfl, rfl, ?_⟩
  simp [Aud.Sound, Aud.micStop, Aud.fill]; tauto

/-! ## Doze entry and wake -/

/-- The entry event of DOZE_ENTRY, from the moment the Mode Controller has taken up the transition (R141). -/
theorem enterDoze_updates (s : State) (n : Nat) :
    ∃ x : Mdc, x.device = .dozeEntry ∧ x.modeTag = s.mdc.modeTag ∧ Updates (s.withMdc x, n) (s.enterDoze, n) := by
  let x : Mdc := { s.mdc.newStrands with
    device := .dozeEntry, prior := some (if decide (s.mdc.device = .run) then .run else .standby), offHead := none,
    donePanels := !decide (s.mdc.device = .run) }
  refine ⟨x, rfl, rfl, ?_⟩
  let a := if decide (s.mdc.device = .run) then (s.withMdc x).withScn (s.withMdc x).scn.stopRequest else s.withMdc x
  have ha : Updates (s.withMdc x, n) (a, n) := by
    show Updates _ (ite _ _ _, n)
    split
    · exact Update.alone (.scn _)
    · exact .refl
  have finish (t : State) : Updates (t, n) ((t.withPlr ({ t.plr with hold := true } : Plr).underHold).laneAnswer, n) :=
    Updates.after (laneAnswer_updates _ n) (.plr _ (underHold_moves (.of_eq rfl rfl)))
  have orders (t : State) : Updates (t, n) (((t.withMdc { t.mdc with doneAudio := true }).finishDoze).motionDoze, n) :=
    Updates.after ((finishDoze_updates _ n).trans (motionDoze_updates _ n)) (.mdc _ (.of_eq rfl rfl))
  exact ha.trans (Updates.after ((orders _).trans (finish _)) (((playStop_moves _).trans (micStop_moves _)).update n))

theorem offHeadExpires_updates (s : State) (n : Nat) : Updates (s, n) (s.offHeadExpires, n) := by
  obtain ⟨x, hd, ht, h⟩ := enterDoze_updates (s.notify (.mode .dozeEntry s.mdc.device .offHead s.ftb.tbc)) n
  exact Updates.after (Updates.after h (.mdc x (.of_moving ht (by rw [hd]; rfl)))) (.notify _)

/-- The lifting of the hold, which takes an IDLE lane to WAKING (R144). -/
theorem liftHold_moves (p : Plr) :
    let q : Plr := { p with hold := false }
    p.Moves (if q.lane = .idle then q.wake else q) := by
  intro q
  split
  · next h => exact .of_lane (.inl (by rw [show p.lane = .idle from h]; decide)) rfl
  · exact .of_eq rfl rfl

/-- A wake, from the moment the Mode Controller has taken up the transition (R144). -/
theorem beginWake_updates (s : State) (n : Nat) (kind : WakeKind) (filters : Byte) (tbc : W32) :
    ∃ x : Mdc, x.device = .waking ∧ x.modeTag = s.mdc.modeTag ∧
      Updates (s.withMdc x, n) (s.beginWake kind filters tbc, n) := by
  let written := s.mdc.wakeRecord.isNone
  let record := if written then some { kind := kind, filters := filters, tbc := tbc } else s.mdc.wakeRecord
  let x : Mdc := { s.mdc.newStrands with
    wakeRecord := record, device := .waking, wakeKind := some kind, donePanels := !decide (s.mdc.prior = some .run) }
  refine ⟨x, rfl, rfl, ?_⟩
  let told := (s.withMdc { s.mdc with wakeRecord := record }).notify (.wake kind filters tbc written)
  let y : Mdc := { told.mdc.newStrands with
    device := .waking, wakeKind := some kind, donePanels := !decide (told.mdc.prior = some .run) }
  have hy : told.withMdc y = (s.withMdc x).notify (.wake kind filters tbc written) := by
    have hm : told.mdc = { s.mdc with wakeRecord := record } := by simp only [told, notify_mdc, withMdc_mdc]
    have hxy : y = x := by simp only [y, x, hm]; rfl
    rw [hxy]
    exact (notify_withMdc _ x _).symm
  have h1 : Updates (s.withMdc x, n) (told.withMdc y, n) := hy ▸ Update.alone (.notify _)
  have finish (t u : State) (c : Bool) (h : Updates (t, n) (u, n)) :
      Updates (t, n) (if c then u.withMdc u.mdc.powerUp else u, n) := by
    split
    · exact h.trans (Update.alone (.mdc _ (.of_eq rfl rfl)))
    · exact h
  refine h1.trans (finish _ _ (decide (told.mdc.prior = some .run)) ?_)
  exact Updates.after ((laneAnswer_updates _ n).trans (motionWake_updates _ n)) (.plr _ (liftHold_moves _))

end Sys2Proof.Machine
end

section
/-! The chains of updates of the picture lane, the Audio Unit, the Power Governor and the Supply Monitor. -/

namespace Sys2Proof.Machine

/-! ## The picture lane -/

theorem breakFill_updates (s : State) (n i : Nat) (h : s.plr.burst = .slice i) :
    Updates (s, n) ((s.withSlm (s.slm.breakFill i)).withPlr { s.plr with burst := .none }, n) :=
  Update.alone (.breakFill h)

theorem abandonBurst_updates (s : State) (n : Nat) : Updates (s, n) (s.abandonBurst, n) := by
  unfold State.abandonBurst
  split
  · next i h => exact breakFill_updates s n i h
  · next h =>
    refine Update.alone (.plr _ (.of_burst (.inr ?_) rfl rfl))
    cases hb : s.plr.burst <;> first | rfl | exact absurd hb (h _)

theorem abandonBurst_burst (s : State) : s.abandonBurst.plr.burst = .none := by
  unfold State.abandonBurst; split <;> rfl

/-- The lane goes DOWN with its burst abandoned (R20). -/
theorem signalLost_updates (s : State) (n : Nat) :
    let lost := s.withPlr { s.plr with signal := false }
    let t := lost.abandonBurst
    Updates (s, n) ((t.withPlr { t.plr with lane := .down, trainLeft := 0, waitLeft := 0 }).laneAnswer, n) := by
  intro lost t
  have hb : t.plr.burst.isSlice = false := by rw [abandonBurst_burst]; rfl
  have h1 : Updates (s, n) (t, n) := Updates.after (abandonBurst_updates _ n) (.plr _ (.of_eq rfl rfl))
  exact h1.trans (Updates.after (laneAnswer_updates _ n) (.plr _ (.of_lane (.inr hb) rfl)))

theorem activityInIdle_updates (s : State) (n : Nat) (h : s.plr.lane = .idle) :
    let t := s.note .lostToIdle
    Updates (s, n) ((t.withPlr ({ t.plr with burst := .lost } : Plr).wake).laneAnswer, n) := by
  intro t
  have hl : t.plr.lane ≠ .active := by rw [show t.plr.lane = .idle from h]; decide
  exact (note_updates s n _).trans (Updates.after (laneAnswer_updates _ n) (.plr _ (.of_burst (.inl hl) rfl rfl)))

theorem skipBurst_updates (s : State) (n : Nat) (k : Counter) (h : s.plr.burst = .none) :
    Updates (s, n) (s.skipBurst k, n) := by
  have hb : (s.note k).plr.burst.isSlice = false := by rw [show (s.note k).plr.burst = .none from h]; rfl
  exact (note_updates s n k).trans (Update.alone (.plr _ (.of_burst (.inr hb) rfl rfl)))

/-- A well-formed audio header states 1 … 1,024 frames, and a slice header an index below 16 (R22). -/
theorem checkHeader_audio {h : List Byte} {tag : W16} {count : Nat} (hh : checkHeader h = .audio tag count) :
    1 ≤ count ∧ count ≤ 1024 := by
  unfold checkHeader at hh
  split at hh
  · cases hh
  · repeat' split at hh
    · cases hh
    · unfold sliceHeader at hh; dsimp only at hh; split at hh <;> cases hh
    · cases hh
    · unfold audioHeader at hh
      dsimp only at hh
      split at hh
      · cases hh
      · next hc =>
        obtain ⟨-, rfl⟩ := Header.audio.inj hh
        simp only [Bool.or_eq_true, decide_eq_true_eq, not_or] at hc
        omega
    · cases hh

theorem checkHeader_slice {h : List Byte} {e : Eye} {k : Nat} {tag ref : W16}
    (hh : checkHeader h = .slice e k tag ref) : k < 16 := by
  unfold checkHeader at hh
  split at hh
  · cases hh
  · repeat' split at hh
    · cases hh
    · unfold sliceHeader at hh
      dsimp only at hh
      split at hh
      · cases hh
      · next hc =>
        obtain ⟨-, rfl, -, -⟩ := Header.slice.inj hh
        simp only [Bool.or_eq_true, decide_eq_true_eq, not_or] at hc
        omega
    · cases hh
    · unfold audioHeader at hh; dsimp only at hh; split at hh <;> cases hh
    · cases hh

theorem openBurst_updates (s : State) (n : Nat) (header : List Byte) (hl : s.plr.lane = .active)
    (hb : s.plr.burst = .none) : Updates (s, n) (s.openBurst header, n) := by
  unfold State.openBurst
  split
  · exact skipBurst_updates s n _ hb
  · next tag count h =>
    obtain ⟨h1, h2⟩ := checkHeader_audio h
    refine Update.alone (.plr _ (.of_burst (.inr (by rw [hb]; rfl)) rfl ?_))
    simp [Burst.countSound, h1, h2]
  · next e k tag ref h =>
    split
    · exact skipBurst_updates s n _ hb
    · next i m ha => exact Update.alone (.fill e k tag ref hl hb (checkHeader_slice h) ha)

theorem startBurst_updates (s : State) (n : Nat) (header : List Byte) : Updates (s, n) (s.startBurst header, n) := by
  unfold State.startBurst
  split
  · next h =>
    have hl : (s.note .lostToIdle).plr.lane ≠ .active := by
      rw [show (s.note .lostToIdle).plr.lane = .waking from h]; decide
    exact (note_updates s n _).trans (Update.alone (.plr _ (.of_burst (.inl hl) rfl rfl)))
  · next h =>
    split
    · next hb => exact openBurst_updates s n header h hb
    · exact .refl
  · next h => exact Update.alone (.plr _ (.of_burst (.inl (by rw [h]; decide)) rfl rfl))
  · exact .refl
  · exact .refl

/-- The sample frames of a payload: one for each four bytes (R165). -/
theorem length_stereoFrames (bytes : List Byte) : (stereoFrames bytes).length = bytes.length / 4 := by
  induction bytes using stereoFrames.induct with
  | case1 a b c d rest ih => simp only [stereoFrames, List.length_cons, ih]; omega
  | case2 bytes h =>
    rw [stereoFrames]
    · match bytes, h with
      | [], _ | [_], _ | [_, _], _ | [_, _, _], _ => simp
      | a :: b :: c :: d :: rest, h => exact absurd rfl (h a b c d rest)
    · exact h

/-- A block that joins the queue brings its frames (section 6.2). -/
theorem fill_append (a : Aud) (b : AudioBlock) :
    ({ a with queue := a.queue ++ [b] } : Aud).fill = a.fill + (b.samples.length - b.consumed) := by
  simp [Aud.fill]

theorem deliverAudio_updates (s : State) (n : Nat) (tag : W16) (samples : List Stereo)
    (h : s.AudioSound → samples ≠ []) : Updates (s, n) (s.deliverAudio tag samples, n) := by
  unfold State.deliverAudio
  split
  · exact Update.alone (.count _ _)
  · next hp =>
    split
    · exact Update.alone (.count _ _)
    · next hq =>
      refine Update.alone (.aud _ rfl rfl fun hs => ?_)
      have hne := List.length_pos_of_ne_nil (h hs)
      obtain ⟨hlen, hfill, hall, -, hrest⟩ := ((audioSound_iff s).1 hs).1
      simp only [Bool.or_eq_true, decide_eq_true_eq, not_or, not_le, not_lt] at hq
      refine ⟨by simp; omega, by rw [fill_append]; dsimp only; omega, ?_, fun hst => absurd hst hp, hrest⟩
      simp_all

theorem endAudio_updates (s : State) (n : Nat) (tag : W16) (count : Nat) (payload crc : List Byte)
    (h : s.plr.burst = .audio tag count) : Updates (s, n) (s.endAudio tag count payload crc, n) := by
  unfold State.endAudio
  split
  · next hg =>
    refine deliverAudio_updates s n tag _ fun hs => ?_
    have hc := ((audioSound_iff s).1 hs).2
    simp only [h, Burst.countSound, payloadGood, Bool.and_eq_true, decide_eq_true_eq] at hc hg
    refine List.ne_nil_of_length_pos ?_
    rw [length_stereoFrames]
    omega
  · exact Update.alone (.count _ _)

theorem endAudio_plr (s : State) (tag : W16) (count : Nat) (payload crc : List Byte) :
    (s.endAudio tag count payload crc).plr = s.plr := by
  unfold State.endAudio State.deliverAudio
  repeat' split
  all_goals rfl

/-- The end of a slice burst: its fill ends with it (R23, R29, R30). -/
theorem endSlice_updates (s : State) (n i : Nat) (payload crc : List Byte) (h : s.plr.burst = .slice i) :
    let t := s.endSlice i payload crc
    Updates (s, n) (t.withPlr { t.plr with burst := .none }, n) := by
  intro t
  have done : Updates (s, n)
      ((s.withSlm (s.slm.complete i s.ftb.tbc payload).1).withPlr { s.plr with burst := .none }, n) :=
    Update.alone (.complete payload h)
  show Updates (s, n) ((s.endSlice i payload crc).withPlr { (s.endSlice i payload crc).plr with burst := .none }, n)
  unfold State.endSlice
  split
  · dsimp only
    split
    · exact done.trans (note_updates _ n .superseded)
    · exact done
  · exact (breakFill_updates s n i h).trans (note_updates _ n .sliceCrc)

theorem closeBurst_updates (s : State) (n : Nat) (payload crc : List Byte) :
    Updates (s, n) (s.closeBurst payload crc, n) := by
  have quiet (h : s.plr.burst.isSlice = false) : Updates (s, n) (s.withPlr { s.plr with burst := .none }, n) :=
    Update.alone (.plr _ (.of_burst (.inr h) rfl rfl))
  unfold State.closeBurst
  split
  · next i h => exact endSlice_updates s n i payload crc h
  · next tag count h =>
    refine (endAudio_updates s n tag count payload crc h).trans (Update.alone (.plr _ (.of_burst (.inr ?_) rfl rfl)))
    rw [endAudio_plr, h]; rfl
  · next h => exact quiet (by rw [h]; rfl)
  · next h => exact quiet (by rw [h]; rfl)
  · next h => exact quiet (by rw [h]; rfl)

theorem endBurst_updates (s : State) (n : Nat) (payload crc : List Byte) :
    Updates (s, n) (s.endBurst payload crc, n) := by
  have dropped (h : s.plr.lane ≠ .active) : Updates (s, n) (s.withPlr { s.plr with burst := .none }, n) :=
    Update.alone (.plr _ (.of_burst (.inl h) rfl rfl))
  unfold State.endBurst
  split
  · exact (closeBurst_updates s n payload crc).trans
      (Updates.after (laneAnswer_updates _ n) (.plr _ (underHold_moves (.of_eq rfl rfl))))
  · next h => exact dropped (by rw [h]; decide)
  · next h => exact dropped (by rw [h]; decide)
  · next h => exact dropped (by rw [h]; decide)
  · exact .refl

/-- An idle entry finds no burst in progress (R138). -/
theorem enterIdle_updates (s : State) (n : Nat) (h : s.plr.burst = .none) : Updates (s, n) (s.enterIdle, n) :=
  Updates.after (Update.alone (.notify _)) (.plr _ (.of_lane (.inr (by rw [h]; rfl)) rfl))

theorem wakeMark_updates (s : State) (n : Nat) : Updates (s, n) (s.wakeMark, n) := by
  unfold State.wakeMark
  split
  · next h =>
    simp only [Bool.and_eq_true, decide_eq_true_eq] at h
    exact Updates.after (laneAnswer_updates _ n) (.plr _ (.of_lane (.inl (by rw [h.1]; decide)) rfl))
  · exact .refl

/-! ## The Audio Unit -/

theorem rampPeriod_moves (a : Aud) (r : Ramp) (h : a.ramp = some r) : a.Moves (a.rampPeriod r).1 := by
  unfold Aud.rampPeriod
  refine ⟨by dsimp only; split <;> rfl, by dsimp only; split <;> rfl, fun hs => ?_⟩
  obtain ⟨h1, h2, h3, h4, h5, h6⟩ := hs
  simp only [h, Option.all_some, Bool.and_eq_true, decide_eq_true_eq] at h5
  dsimp only
  split
  · exact ⟨h1, h2, h3, h4, rfl, h6⟩
  · exact ⟨h1, h2, h3, h4, by simp; omega, h6⟩

/-- An underrun leaves a ramp at its second step (R102). -/
theorem runDry_moves (a : Aud) : a.Moves a.runDry.1 := by
  refine ⟨rfl, rfl, fun hs => ?_⟩
  obtain ⟨h1, h2, h3, -, -, h6⟩ := hs
  exact ⟨h1, h2, h3, fun h => (by cases h), rfl, h6⟩

/-- The frame that a period consumes leaves the queue (R101). -/
theorem consume_moves (a : Aud) (hp : a.playout ≠ .stopped) : a.Moves a.consume.1 := by
  unfold Aud.consume
  split
  · exact ⟨rfl, rfl, id⟩
  · next b rest hq =>
    refine ⟨rfl, rfl, fun hs => ?_⟩
    obtain ⟨h1, h2, h3, -, h5⟩ := hs
    simp only [Aud.fill, hq, List.map_cons, List.sum_cons, List.all_cons, Bool.and_eq_true, decide_eq_true_eq,
      List.length_cons] at h1 h2 h3
    dsimp only
    split
    · exact ⟨by dsimp only; omega, by simp only [Aud.fill]; omega, h3.2, fun h => absurd h hp, h5⟩
    · refine ⟨by simp; omega, by simp only [Aud.fill, List.map_cons, List.sum_cons]; omega, ?_,
        fun h => absurd h hp, h5⟩
      simp only [List.all_cons, Bool.and_eq_true, decide_eq_true_eq]
      exact ⟨by omega, h3.2⟩

theorem sourcePeriod_moves (a : Aud) : a.Moves a.sourcePeriod.1 := by
  unfold Aud.sourcePeriod
  split
  · next r h => exact rampPeriod_moves a r h
  · split
    · exact ⟨rfl, rfl, id⟩
    · split
      · exact ⟨rfl, rfl, id⟩
      · split
        · have playing : a.Moves { a with playout := .playing, underrun := false } := by
            refine ⟨rfl, rfl, fun hs => ?_⟩
            obtain ⟨h1, h2, h3, -, h5⟩ := hs
            exact ⟨h1, h2, h3, fun h => (by cases h), h5⟩
          exact playing.trans (consume_moves _ (by simp))
        · exact ⟨rfl, rfl, id⟩
      · next hp =>
        split
        · exact runDry_moves a
        · exact consume_moves a (by rw [hp]; decide)

theorem outputPeriod_updates (s : State) (n : Nat) : Updates (s, n) (s.outputPeriod, n) := by
  unfold State.outputPeriod
  dsimp only
  have played (x : Stereo) : s.aud.Moves { s.aud.sourcePeriod.1.nextFrame with cap := s.gov.cap, output := x } :=
    (sourcePeriod_moves s.aud).trans ⟨rfl, rfl, id⟩
  split
  · exact Updates.after (note_updates _ n _) ((played _).update n)
  · exact Update.alone ((played _).update n)

theorem micSample_updates (s : State) (n : Nat) (sample : W16) : Updates (s, n) (s.micSample sample, n) := by
  unfold State.micSample
  dsimp only
  split
  · have emptied : s.aud.Moves { s.aud with micDraft := none, blockSeq := s.aud.blockSeq + 1 } := by
      refine ⟨rfl, rfl, fun hs => ?_⟩
      obtain ⟨h1, h2, h3, h4, h5, h6, -, h8⟩ := hs
      exact ⟨h1, h2, h3, h4, h5, h6, rfl, h8⟩
    exact Updates.after (Update.alone (.offerMic _)) (emptied.update n)
  · next hlt =>
    refine Update.alone (Aud.Moves.update (s := s) ?_ n)
    refine ⟨rfl, rfl, fun hs => ?_⟩
    obtain ⟨h1, h2, h3, h4, h5, h6, h7, h8, h9, h10, h11, h12, h13⟩ := hs
    refine ⟨h1, h2, h3, h4, h5, h6, ?_, h8, h9, h10, h11, h12, h13⟩
    simp only [Option.all_some, Bool.and_eq_true, decide_eq_true_eq]
    refine ⟨by omega, ?_⟩
    unfold Aud.joinMic
    split
    · exact h13
    · next d hd => simp [hd] at h7; exact h7.2

theorem micPassed_updates (s : State) (n : Nat) : Updates (s, n) (s.micPassed, n) :=
  Update.alone (Aud.Moves.update (s := s) (x := { s.aud with micDue := false }) ⟨rfl, rfl, id⟩ n)

/-- A bounding field lies in its range. -/
theorem field_mem {lo hi v : Nat} (h : lo ≤ hi) : lo ≤ field lo hi v ∧ field lo hi v ≤ hi := by
  unfold field; repeat' split
  all_goals omega

/-- An optional bounding field lies in its range, where the value it replaces does. -/
theorem field16_mem {lo hi old : Nat} {v : Option W16} (h : lo ≤ hi) (ho : lo ≤ old ∧ old ≤ hi) :
    lo ≤ field16 lo hi v old ∧ field16 lo hi v old ≤ hi := by
  cases v with
  | none => exact ho
  | some x => exact field_mem h

theorem audSet_moves (a : Aud) (f : AudioFields) : a.Moves (a.set f) := by
  refine ⟨rfl, rfl, fun hs => ?_⟩
  obtain ⟨h1, h2, h3, h4, h5, h6, h7, h8, h9, h10, h11, h12, h13⟩ := hs
  exact ⟨h1, h2, h3, h4, h5, h6, h7, (field16_mem (Nat.zero_le _) ⟨Nat.zero_le _, h8⟩).2,
    (field16_mem (Nat.zero_le _) ⟨Nat.zero_le _, h9⟩).2, (field16_mem (by decide) ⟨h10, h11⟩).1,
    (field16_mem (by decide) ⟨h10, h11⟩).2, (field16_mem (by decide) ⟨h12, h13⟩).1,
    (field16_mem (by decide) ⟨h12, h13⟩).2⟩

theorem playStart_moves (a : Aud) : a.Moves a.playStart := by
  unfold Aud.playStart
  split
  · refine ⟨rfl, rfl, fun hs => ?_⟩
    obtain ⟨-, -, -, -, h5⟩ := hs
    exact ⟨by simp, by simp [Aud.fill], rfl, fun h => (by cases h), h5⟩
  · exact ⟨rfl, rfl, id⟩

/-! ## The Power Governor -/

theorem rampOrder_sound {a : Aud} (h : a.Sound) : a.rampOrder.Sound := by
  unfold Aud.rampOrder
  dsimp only
  split
  · exact h
  · exact (startRamp_moves { a with powerFailHold := true }).sound h

@[simp] theorem rampOrder_hold (a : Aud) : a.rampOrder.powerFailHold = true := by
  unfold Aud.rampOrder
  dsimp only
  split
  · rfl
  · exact (startRamp_moves { a with powerFailHold := true }).hold

@[simp] theorem rampOrder_uplink (a : Aud) : a.rampOrder.uplink = a.uplink := by
  unfold Aud.rampOrder
  dsimp only
  split
  · rfl
  · exact (startRamp_moves { a with powerFailHold := true }).uplink

theorem release_sound {a : Aud} (h : a.Sound) : a.release.Sound := by
  unfold Aud.release
  split
  · exact h
  · obtain ⟨h1, h2, h3, h4, -, h6⟩ := h
    exact ⟨h1, h2, h3, h4, rfl, h6⟩

@[simp] theorem release_hold (a : Aud) : a.release.powerFailHold = false := by unfold Aud.release; split <;> rfl
@[simp] theorem release_uplink (a : Aud) : a.release.uplink = a.uplink := by unfold Aud.release; split <;> rfl

theorem undervoltage_updates (s : State) (n vin : Nat) (tbc : W32) :
    Updates (s, n) (s.undervoltage vin tbc, n) := by
  unfold State.undervoltage
  split
  · split
    · next h =>
      refine Update.alone (.gov _ ⟨Iff.rfl, fun hs => ?_⟩)
      obtain ⟨h1, h2, h3, -, -, h6⟩ := hs
      exact ⟨h1, h2, h3, by simp, by simp, h6⟩
    · refine Updates.after (Update.alone (.notify _)) (.enterPowerFail _ _ rfl (fun hs => ?_) (rampOrder_hold _)
        (rampOrder_uplink _) rampOrder_sound)
      obtain ⟨-, -, h3, -, -, h6⟩ := hs
      exact ⟨by simp, by simp, h3, by simp, by simp, h6⟩
  · exact .refl

/-- The state decided after an evaluation is one of the three outside POWER_FAIL (R127). -/
theorem decide_ne_powerFail (g : Gov) (wLimit wReq : Nat) : g.decide wLimit wReq ≠ .powerFail := by
  unfold Gov.decide; repeat' split
  all_goals simp

/-- A Governor outside POWER_FAIL with the cap of its state (R127). -/
theorem Gov.Sound.withState {g : Gov} (h : g.Sound) (hr : g.recovery = 0) {st : GovState} (w : Nat)
    (v : Option Evaluation) :
    ({ g with wLimit := w, evaluation := v, state := st, cap := st.gainCap } : Gov).Sound := by
  obtain ⟨-, -, -, -, -, h6⟩ := h
  exact ⟨by rintro rfl; rfl, by rintro (rfl | rfl) <;> rfl, by cases st <;> simp [GovState.gainCap],
    by simp [hr], fun _ => hr, h6⟩

theorem evaluateFully_updates (s t : State) (n vin iin : Nat) (skin : Int) (tbc : W32) (r : Nat)
    (ht : t = s.withGov { s.gov with recovery := r }) (hr : s.gov.state = .powerFail → r = 0)
    (hs : s.gov.state ≠ .powerFail → r = s.gov.recovery) :
    Updates (s, n) (t.evaluateFully vin iin skin tbc, n) := by
  subst ht
  unfold State.evaluateFully
  dsimp only [withGov_gov, withGov_ftb, withGov_scn]
  set v := Gov.evaluate _ _ _ _ _ _ _
  have hnew := decide_ne_powerFail { s.gov with recovery := r } v.wLimit s.ftb.live.wReq
  set new := Gov.decide _ _ _
  by_cases hp : s.gov.state = .powerFail
  · -- the exit from POWER_FAIL
    have hne : new ≠ s.gov.state := by rw [hp]; exact hnew
    rw [if_neg hne, if_pos hp]
    refine Updates.after (Update.alone (.notify _)) (.leavePowerFail _ _ hnew (fun h => ?_) (release_hold _)
      (release_uplink _) release_sound)
    refine Gov.Sound.withState (g := { s.gov with recovery := r }) ?_ (hr hp) _ _
    obtain ⟨h1, h2, h3, -, -, h6⟩ := h
    exact ⟨h1, h2, h3, by simp [hr hp], fun _ => hr hp, h6⟩
  · have recovered : s.gov.Sound → ({ s.gov with recovery := r } : Gov).Sound ∧ r = 0 := by
      intro h
      rw [hs hp]
      exact ⟨h, h.2.2.2.2.1 hp⟩
    split
    · next heq =>
      refine Update.alone (.gov _ ⟨by rw [heq], fun h => ?_⟩)
      rw [heq]; exact (recovered h).1
    · refine Updates.after (Update.alone (.notify _)) (.gov _ ⟨iff_of_false hnew hp, fun h => ?_⟩)
      exact (recovered h).1.withState (recovered h).2 _ _

theorem evaluate_updates (s : State) (n vin iin : Nat) (skin : Int) (tbc : W32) :
    Updates (s, n) (s.evaluate vin iin skin tbc, n) := by
  unfold State.evaluate
  split
  · next hp =>
    dsimp only
    split
    · exact evaluateFully_updates s _ n vin iin skin tbc 0 rfl (fun _ => rfl) (fun h => absurd hp h)
    · next hlt =>
      refine Update.alone (.gov _ ⟨Iff.rfl, fun hs => ?_⟩)
      obtain ⟨h1, h2, h3, -, -, h6⟩ := hs
      exact ⟨h1, h2, h3, by dsimp only; omega, fun h => absurd hp h, h6⟩
  · next hp => exact evaluateFully_updates s s n vin iin skin tbc _ rfl (fun h => absurd h hp) (fun _ => rfl)

theorem allowance_moves (g : Gov) (v : Nat) : g.Moves { g with allowance := field 0 30000 v } := by
  refine ⟨Iff.rfl, fun hs => ?_⟩
  obtain ⟨h1, h2, h3, h4, h5, -, h7⟩ := hs
  exact ⟨h1, h2, h3, h4, h5, (field_mem (Nat.zero_le _)).2, h7⟩

/-- LIMITS SET keeps the Governor sound where it leaves T_s below T_lim (R129). -/
theorem limited_moves (g : Gov) (f : LimitsFields) (h : (g.limited f).ts < (g.limited f).tLim) :
    g.Moves (g.limited f) := by
  refine ⟨Iff.rfl, fun hs => ?_⟩
  obtain ⟨h1, h2, h3, h4, h5, h6, h7, h8, h9, h10, -, h12⟩ := hs
  exact ⟨h1, h2, h3, h4, h5, h6, (field16_mem (Nat.zero_le _) ⟨Nat.zero_le _, h7⟩).2,
    (field16_mem (by decide) ⟨h8, h9⟩).1, (field16_mem (by decide) ⟨h8, h9⟩).2,
    (field16_mem (Nat.zero_le _) ⟨Nat.zero_le _, h10⟩).2, h, (field16_mem (Nat.zero_le _) ⟨Nat.zero_le _, h12⟩).2⟩

end Sys2Proof.Machine
end

section
/-! The chains of updates of the Motion Unit, the Mode Controller and the Supply Monitor. -/

namespace Sys2Proof.Machine

/-! ## The Motion Unit: start and stop -/

/-- A start that fails is answered, and MOT returns to OFF (R58). -/
theorem failStart_updates (s : State) (n : Nat) (reason : Byte) : Updates (s, n) (s.failStart reason, n) := by
  unfold State.failStart
  dsimp only
  split
  · next h => exact motionOff_updates s n false h
  · next tag b h =>
    refine Relation.ReflTransGen.trans (b := (_, n)) ?_ (motionOff_updates _ n false (by simp))
    exact Update.alone (.answerStart _ _ (by rw [h]; rfl) rfl rfl rfl id fun hd => ⟨by simp, hd.2⟩)

theorem identityRead_updates (s : State) (n : Nat) (identity : Byte) :
    Updates (s, n) (s.identityRead identity, n) := by
  have read : Updates (s, n) (s.withMot { s.mot.busNext with lastIdentity := some identity }, n) :=
    Update.alone (.mot _ ((busNext_moves _).trans (.of_eq id rfl rfl rfl rfl rfl rfl)))
  unfold State.identityRead
  dsimp only
  split
  · exact read
  · split
    · exact read.trans (Update.alone (.mot _ (want_moves _ _ _ (by simp))))
    · exact read.trans (failStart_updates _ n 0)

theorem configWritten_updates (s : State) (n : Nat) : Updates (s, n) (s.configWritten, n) := by
  unfold State.configWritten
  refine Update.alone (.mot _ ((busNext_moves _).trans ?_))
  split
  · exact .of_eq id rfl rfl rfl rfl rfl rfl
  · exact .of_eq id rfl rfl rfl rfl rfl rfl

theorem stopMotion_updates (s : State) (n : Nat) : Updates (s, n) (s.stopMotion, n) := by
  let t := s.abandonRead.abortStart.abortCalibration.completeDraft
  have ended : Updates (s, n) (t, n) := (abandonRead_updates s n).trans ((abortStart_updates _ n).trans
    ((abortCalibration_updates _ n).trans (completeDraft_updates _ n)))
  have started : t.mot.starting = none := by
    rw [completeDraft_starting, abortCalibration_starting, abortStart_starting]
  refine ended.trans (Updates.after (motionOff_updates _ n false started) (.mot _ ((clearRuns_moves t.mot).trans ?_)))
  exact .of_eq Mot.Sound.withRing_nil rfl rfl rfl rfl rfl rfl

/-- A capture restarts the stall timer, and may put a sample read on the bus (R61, R66). -/
theorem takeCapture_updates (s : State) (n : Nat) (c : Capture) : Updates (s, n) (s.takeCapture c, n) := by
  have restart : s.mot.Moves s.mot.restartStall := .of_eq id rfl rfl rfl rfl rfl rfl
  unfold State.takeCapture
  dsimp only
  split
  · refine Update.alone (.mot _ (restart.trans ((want_moves _ .sampleRead false (by simp)).trans ?_)))
    exact .of_eq id rfl rfl rfl rfl rfl rfl
  · exact Updates.after (Update.alone (.ftb _ (by constructor <;> rfl))) (.mot _ restart)

/-! ## A sample (R62 to R67, R72) -/

/-- The residue of an integration is a remainder by 10^6 (R64). -/
theorem integrateAxis_residue_lt (acc : W32) (residue : Nat) (rate : W16) (dt : Int) :
    (integrateAxis acc residue rate dt).2 < 1000000 := by
  simp only [integrateAxis]
  omega

/-- One more sample joins a run of consecutive ones (R65). -/
theorem ringSound_concat (ring : List RingEntry) (e : RingEntry) (newest : W16) (h : ringSound ring newest)
    (he : e.seq = newest + 1) : ringSound (ring ++ [e]) (newest + 1) := by
  induction ring with
  | nil => simp [ringSound, he]
  | cons x xs ih =>
    simp only [ringSound, Bool.and_eq_true, decide_eq_true_eq, List.cons_append] at h ⊢
    refine ⟨?_, ih h.2⟩
    rw [← h.1, List.length_append, List.length_singleton, BitVec.ofNat_add, BitVec.add_assoc]
    rfl

/-- A run of consecutive samples without its oldest is one. -/
theorem ringSound_drop_one (ring : List RingEntry) (newest : W16) (h : ringSound ring newest) :
    ringSound (ring.drop 1) newest := by
  cases ring with
  | nil => exact h
  | cons x xs =>
    simp only [ringSound, Bool.and_eq_true] at h
    exact h.2

theorem integrate_moves (m : Mot) (tbc : W32) (rate accel : Axes W16) (dt : Int) :
    m.Moves (m.integrate tbc rate accel dt) := by
  refine .of_eq (fun hs => ?_) rfl rfl rfl rfl rfl rfl
  obtain ⟨h1, h2, -, -, -, h6⟩ := hs
  refine ⟨?_, ?_, integrateAxis_residue_lt m.acc.yaw .., integrateAxis_residue_lt m.acc.pitch ..,
    integrateAxis_residue_lt m.acc.roll .., h6⟩
  · simp only [Mot.integrate]
    split <;> simp <;> omega
  · refine ringSound_concat _ _ _ ?_ rfl
    split
    · exact ringSound_drop_one _ _ h2
    · exact h2

/-- A Motion Unit with its report under assembly put aside is sound with any report that is short of 8 samples. -/
theorem Mot.Sound.withDraft {m : Mot} (h : m.Sound) {d : MotionDraft}
    (hd : 0 < d.samples.length ∧ d.samples.length < 8) : ({ m with draft := some d } : Mot).Sound := by
  unfold Mot.Sound at h ⊢
  simp_all

/-- The report that a sample joins. -/
theorem batchSample_draft (m : Mot) (x : ReportSample) : ∃ d, m.batchSample x = { m with draft := some d } ∧
    0 < d.samples.length ∧ (m.Sound → d.samples.length ≤ 8) := by
  unfold Mot.batchSample
  split
  · exact ⟨_, rfl, by simp, by simp⟩
  · next d hd =>
    refine ⟨_, rfl, by simp, fun h => ?_⟩
    obtain ⟨-, h8⟩ := h.draft_length hd
    simp; omega

/-- A sample integrated and batched: the report it fills is offered (R67). -/
theorem batch_updates (s : State) (n : Nat) (m : Mot) (h : s.mot.Moves m) (x : ReportSample) :
    Updates (s, n) ((s.withMot (m.batchSample x)).batchFull, n) := by
  obtain ⟨d, hd, hpos, hle⟩ := batchSample_draft m x
  have dropped : s.mot.Moves { m with draft := none } := h.trans (dropDraft_moves m)
  have full (hf : m.batch ≤ d.samples.length) : (s.withMot { m with draft := some d }).batchFull =
      (s.withMot { m with draft := none }).offerMotion
        { first := d.first, samples := d.samples, acc := m.acc, dropped := 0 } := by
    simp only [State.batchFull, State.completeDraft, withMot_mot, Option.any_some, hf, decide_true, if_true]
    rw [if_neg (by simpa using List.ne_nil_of_length_pos hpos)]
    rfl
  rw [hd]
  by_cases hf : m.batch ≤ d.samples.length
  · rw [full hf]
    exact Update.alone (.offerMotion _ _ dropped fun hs => ⟨hpos, hle (h.sound hs)⟩)
  · have short : (s.withMot { m with draft := some d }).batchFull = s.withMot { m with draft := some d } := by
      simp [State.batchFull, hf]
    rw [short]
    refine Update.alone (.mot _ ⟨h.queue, h.starting, h.cal, fun hs => ?_, h.deferred⟩)
    have hm := h.sound hs
    have hb : m.batch ≤ 8 := hm.2.2.2.2.2.2.2.2.2.1
    exact hm.withDraft ⟨hpos, by omega⟩

/-- A bounding value lies in its range. -/
theorem clampTo_mem {lo hi v : Int} (h : lo ≤ hi) : lo ≤ clampTo lo hi v ∧ clampTo lo hi v ≤ hi := by
  unfold clampTo; repeat' split
  all_goals omega

/-- A Motion Unit with a bias in its range (R70). -/
theorem Mot.Sound.withBias {m : Mot} (h : m.Sound) {b : Axes Int} (hx : -2048 ≤ b.x ∧ b.x ≤ 2047)
    (hy : -2048 ≤ b.y ∧ b.y ≤ 2047) (hz : -2048 ≤ b.z ∧ b.z ≤ 2047) : ({ m with bias := b } : Mot).Sound := by
  obtain ⟨h1, h2, h3, h4, h5, -, -, -, h9⟩ := h
  exact ⟨h1, h2, h3, h4, h5, hx, hy, hz, h9⟩

theorem calibrateSample_updates (s : State) (n : Nat) (raw : RawSample) :
    Updates (s, n) (s.calibrateSample raw, n) := by
  unfold State.calibrateSample
  split
  · exact .refl
  · next c hc =>
    have taken : s.mot.cal.isSome := by rw [hc]; rfl
    dsimp only
    split
    · exact Update.alone (.answerCalibration s.mot.bias _ taken id)
    · split
      · refine Update.alone (.answerCalibration _ _ taken fun h => ?_)
        exact h.withBias (clampTo_mem (by decide)) (clampTo_mem (by decide)) (clampTo_mem (by decide))
      · exact Update.alone (.mot _ ⟨rfl, rfl, by simp [hc], id, id⟩)

theorem processSample_updates (s : State) (n : Nat) (c : Capture) (raw : RawSample) :
    Updates (s, n) (s.processSample c raw, n) :=
  Updates.after ((batch_updates (s.count .saturation (biased raw s.mot.bias).2) n _ (integrate_moves s.mot ..) _).trans
    (calibrateSample_updates _ n raw)) (.count _ _)

theorem run_moves (m : Mot) (h : m.starting = none) : m.Moves m.run :=
  ⟨rfl, rfl, rfl, id, fun _ => ⟨by simp [Mot.run, h], fun _ => .inl rfl⟩⟩

theorem startDone_updates (s : State) (n : Nat) (c : Capture) : Updates (s, n) (s.startDone c, n) := by
  unfold State.startDone
  dsimp only
  split
  · next h => exact Update.alone (.mot _ (run_moves _ h))
  · next tag b h =>
    have taken : s.mot.starting.isSome := by rw [show s.mot.starting = some (tag, b) from h]; rfl
    exact Update.alone (.answerStart { s.mot.run with starting := none } _ taken rfl rfl rfl id
      fun _ => ⟨by simp, fun _ => .inl rfl⟩)

/-- A processed sample leaves the state of the Motion Unit and its start (R62 to R67, R72). -/
theorem processSample_frame (s : State) (c : Capture) (raw : RawSample) :
    (s.processSample c raw).mot.state = s.mot.state ∧ (s.processSample c raw).mot.starting = s.mot.starting := by
  have calibrated (t : State) :
      (t.calibrateSample raw).mot.state = t.mot.state ∧ (t.calibrateSample raw).mot.starting = t.mot.starting := by
    unfold State.calibrateSample
    split
    · exact ⟨rfl, rfl⟩
    · dsimp only
      repeat' split
      all_goals simp [State.completeCalibration]
  have batched (t : State) : t.batchFull.mot.state = t.mot.state ∧ t.batchFull.mot.starting = t.mot.starting := by
    unfold State.batchFull
    split
    · exact ⟨completeDraft_state t, completeDraft_starting t⟩
    · exact ⟨rfl, rfl⟩
  have joined (m : Mot) (x : ReportSample) :
      (m.batchSample x).state = m.state ∧ (m.batchSample x).starting = m.starting := by
    unfold Mot.batchSample; split <;> exact ⟨rfl, rfl⟩
  unfold State.processSample
  dsimp only
  rw [(calibrated _).1, (calibrated _).2, (batched _).1, (batched _).2, withMot_mot, (joined _ _).1, (joined _ _).2]
  exact ⟨rfl, rfl⟩

/-- What a Motion Unit out of STARTING has: no start in progress. -/
theorem Mot.Deferred.starting_none {m : Mot} (h : m.Deferred) (hs : m.state ≠ .starting) : m.starting = none := by
  cases hst : m.starting with
  | none => rfl
  | some x => exact absurd (h.1 (by rw [hst]; rfl)) hs

/-- A resumed Motion Unit (R66): in STALLED no start is in progress. -/
theorem resume_moves (m : Mot) (h : m.state ≠ .starting) : m.Moves m.run :=
  ⟨rfl, rfl, rfl, id, fun hd => (run_moves m (hd.starting_none h)).deferred hd⟩

theorem beginWake_moving_updates (s : State) (n : Nat) (kind : WakeKind) (filters : Byte) (tbc : W32) :
    Updates (s, n) (s.beginWake kind filters tbc, n) := by
  obtain ⟨x, hd, ht, h⟩ := beginWake_updates s n kind filters tbc
  exact Updates.after h (.mdc x (.of_moving ht (by rw [hd]; rfl)))

theorem filterSample_updates (s : State) (n : Nat) (c : Capture) (rate accel : Axes W16) :
    Updates (s, n) (s.filterSample c rate accel, n) := by
  unfold State.filterSample
  dsimp only
  have evaluated (fs : List WakeFilter) (h : fs.length = s.mot.filters.length) :
      s.mot.Moves { s.mot with filters := fs } := by
    refine .of_eq (fun hs => ?_) rfl rfl rfl rfl rfl rfl
    obtain ⟨h1, h2, h3, h4, h5, h6, h7, h8, h9, h10, h11, h12, h13, h14⟩ := hs
    exact ⟨h1, h2, h3, h4, h5, h6, h7, h8, h9, h10, h11, h12, h13, h.trans h14⟩
  split
  · exact Updates.after (beginWake_moving_updates _ n _ _ _) (.mot _ (evaluated _ (by simp)))
  · exact Update.alone (.mot _ (evaluated _ (by simp)))

theorem watchSample_updates (s : State) (n : Nat) (c : Capture) (raw : RawSample) :
    Updates (s, n) (s.watchSample c raw, n) := by
  unfold State.watchSample
  dsimp only
  split
  · exact Updates.after (filterSample_updates _ n c _ _) (.count _ _)
  · exact Update.alone (.count _ _)

theorem sampleRead_updates (s : State) (n : Nat) (raw : RawSample) : Updates (s, n) (s.sampleRead raw, n) := by
  unfold State.sampleRead
  split
  · exact Update.alone (.mot _ (busNext_moves _))
  · next c _ =>
    have released : Updates (s, n)
        ((s.withMot { s.mot.busNext with reading := none }).withFtb { s.ftb with slot := none }, n) :=
      Updates.after (Update.alone (.ftb _ (by constructor <;> rfl)))
        (.mot _ ((busNext_moves _).trans (.of_eq id rfl rfl rfl rfl rfl rfl)))
    dsimp only
    refine released.trans ?_
    split
    · exact .refl
    · exact (processSample_updates _ n c raw).trans (startDone_updates _ n c)
    · exact processSample_updates _ n c raw
    · next h =>
      have hs := (processSample_frame
        ((s.withMot { s.mot.busNext with reading := none }).withFtb { s.ftb with slot := none }) c raw).1
      refine (processSample_updates _ n c raw).trans (Updates.after (Update.alone (.notify _))
        (.mot _ (resume_moves _ ?_)))
      rw [hs, h]; decide
    · exact watchSample_updates _ n c raw

/-! ## Rate and power-down writes, stall, settings -/

/-- A rate write that the Motion Unit still wants takes it out of no start (R74, R75). -/
theorem rateWritten_moves (m : Mot) (x : Mot) (hx : x = { m.busNext with sensor := .rate m.busRate })
    (hdone : m.busDone .rateWatch = true ∨ m.busDone .rateRun = true) (hw : m.busWanted = true) :
    m.Moves { x with state := .dozeWatch } ∧ m.Moves x.run := by
  have next : m.Moves x := hx ▸ (busNext_moves m).trans (.of_eq id rfl rfl rfl rfl rfl rfl)
  have started (hd : m.Deferred) : m.starting = none := by
    have hb : m.bus.any Tx.rateWanted = true := by
      cases hm : m.bus with
      | none => simp [Mot.busDone, hm] at hdone
      | some t =>
        simp only [Mot.busDone, Mot.busWanted, hm, Option.any_some, Bool.and_eq_true, decide_eq_true_eq] at hdone hw
        simp only [Option.any_some, Tx.rateWanted, hw, Bool.true_and, Bool.or_eq_true, decide_eq_true_eq]
        exact hdone.imp And.left And.left
    refine hd.starting_none fun h => ?_
    rcases hd.2 (.inl hb) with h' | h' | h' <;> rw [h] at h' <;> cases h'
  have kept (hd : m.Deferred) : x.starting = none := by
    have := next.starting
    rw [started hd] at this
    simpa using this
  exact ⟨⟨next.queue, next.starting, next.cal, next.sound, fun hd => ⟨by simp [kept hd], fun _ => .inr (.inr rfl)⟩⟩,
    ⟨next.queue, next.starting, next.cal, next.sound, fun hd => ⟨by simp [Mot.run, kept hd], fun _ => .inl rfl⟩⟩⟩

theorem rateWritten_updates (s : State) (n : Nat) (h : s.rateWriteIsDue = true) :
    Updates (s, n) (s.rateWritten, n) := by
  have hdone : s.mot.busDone .rateWatch = true ∨ s.mot.busDone .rateRun = true := by
    simpa [State.rateWriteIsDue] using h
  have written (x : Mot) (hx : s.mot.Moves x) (c : Bool) :
      Updates (s, n) (if c then (s.withMot x).motionAnswer else s.withMot x, n) := by
    split
    · exact Updates.after (motionAnswer_updates _ n) (.mot _ hx)
    · exact Update.alone (.mot _ hx)
  unfold State.rateWritten
  dsimp only
  refine written _ ?_ _
  by_cases hw : s.mot.busWanted = true
  · obtain ⟨hwatch, hrun⟩ := rateWritten_moves s.mot _ rfl hdone hw
    simp only [hw, Bool.not_true, Bool.false_eq_true, if_false]
    split
    · exact hwatch
    · exact hrun
  · simp only [Bool.not_eq_true] at hw
    simp only [hw, Bool.not_false, if_true]
    exact (busNext_moves _).trans (.of_eq id rfl rfl rfl rfl rfl rfl)

theorem poweredDown_updates (s : State) (n : Nat) : Updates (s, n) (s.poweredDown, n) := by
  have written : s.mot.Moves { s.mot.busNext with sensor := .poweredDown } :=
    (busNext_moves _).trans (.of_eq id rfl rfl rfl rfl rfl rfl)
  unfold State.poweredDown
  dsimp only
  split
  · exact Updates.after (motionAnswer_updates _ n) (.mot _ written)
  · exact Update.alone (.mot _ written)

theorem stall_updates (s : State) (n : Nat) (h : s.mot.state = .running) : Updates (s, n) (s.stall, n) := by
  let t := s.completeDraft.abortCalibration
  have hs : t.mot.state = .running := by rw [abortCalibration_state, completeDraft_state, h]
  have stalled : t.mot.Moves { t.mot with state := .stalled, stallLeft := none } := by
    refine ⟨rfl, rfl, rfl, id, fun hd => ⟨fun hst => ?_, fun _ => .inr (.inl rfl)⟩⟩
    rw [show t.mot.starting = none from hd.starting_none (by rw [hs]; decide)] at hst
    cases hst
  exact ((completeDraft_updates s n).trans (abortCalibration_updates _ n)).trans
    (Updates.after (Update.alone (.notify _)) (.mot _ stalled))

theorem signed16_mem {v : Option W16} {old : Int} (h : -2048 ≤ old ∧ old ≤ 2047) :
    -2048 ≤ signed16 (-2048) 2047 v old ∧ signed16 (-2048) 2047 v old ≤ 2047 := by
  cases v with
  | none => exact h
  | some x => exact clampTo_mem (by decide)

theorem setBias_updates (s : State) (n : Nat) (tag : Byte) (f : BiasFields) :
    Updates (s, n + 1) (s.setBias tag f, n) := by
  unfold State.setBias
  split
  · exact replyTo_updates ..
  · split
    · exact replyTo_updates ..
    · refine Updates.after (replyTo_updates ..) (.mot _ (.of_eq (fun h => ?_) rfl rfl rfl rfl rfl rfl))
      have ⟨_, _, _, _, _, hx, hy, hz, _⟩ := h
      exact h.withBias (signed16_mem hx) (signed16_mem hy) (signed16_mem hz)

/-- A recentre leaves the sequence numbers of the ring (R73). -/
theorem ringSound_map (f : RingEntry → RingEntry) (hf : ∀ e, (f e).seq = e.seq) (ring : List RingEntry) (newest : W16) :
    ringSound (ring.map f) newest = ringSound ring newest := by
  induction ring with
  | nil => rfl
  | cons x xs ih => simp [ringSound, hf, ih]

theorem recentre_moves (m : Mot) (o : Angles W32) : m.Moves (m.recentre o) := by
  refine .of_eq (fun h => ?_) rfl rfl rfl rfl rfl rfl
  obtain ⟨h1, h2, h3⟩ := h
  refine ⟨?_, ?_, h3⟩
  · simpa [Mot.recentre] using h1
  · simpa [Mot.recentre, ringSound_map] using h2

theorem recentre_updates (s : State) (n : Nat) (tag : Byte) (f : RecentreFields) :
    Updates (s, n + 1) (s.recentre tag f, n) := by
  unfold State.recentre
  split
  · exact replyTo_updates ..
  · exact Updates.after (replyTo_updates ..) (.mot _ (recentre_moves ..))

theorem setFilter_updates (s : State) (n : Nat) (tag : Byte) (f : WakeFilterFields) :
    Updates (s, n + 1) (s.setFilter tag f, n) := by
  unfold State.setFilter
  split
  · exact replyTo_updates ..
  · refine Updates.after (replyTo_updates ..) (.mot _ (.of_eq (fun h => ?_) rfl rfl rfl rfl rfl rfl))
    obtain ⟨h1, h2, h3, h4, h5, h6, h7, h8, h9, h10, h11, h12, h13, h14⟩ := h
    exact ⟨h1, h2, h3, h4, h5, h6, h7, h8, h9, h10, h11, h12, h13, by simpa using h14⟩

/-- An accepted MOTION START (R57). -/
theorem beginStart_updates (s : State) (n : Nat) (tag : Byte) (f : MotionStartFields) (h : s.mot.state = .off) :
    Updates (s, n + 1) (s.beginStart tag f, n) := by
  unfold State.beginStart
  refine Updates.after (Update.alone (.ftb _ (by constructor <;> rfl))) (.deferStart _ h ?_ ?_ ?_ ?_ ?_)
  all_goals simp only [want_eq]
  · rfl
  · intro hs
    obtain ⟨h1, h2, h3, h4, h5, h6, h7, h8, -, -, h9⟩ := hs
    have hb := field_mem (lo := 1) (hi := 8) (v := f.batch.toNat) (by decide)
    exact ⟨h1, h2, h3, h4, h5, h6, h7, h8, hb.1, hb.2, h9⟩
  · intro hd
    refine ⟨fun _ => rfl, fun hr => ?_⟩
    have idle : ¬ (s.mot.bus.any Tx.rateWanted = true ∨ s.mot.waiting.any Tx.rateWanted = true) := by
      intro hb
      rcases hd.2 hb with h' | h' | h' <;> rw [h] at h' <;> cases h'
    exfalso
    revert hr idle
    cases s.mot.bus <;> simp +contextual [Tx.rateWanted]

/-! ## The Mode Controller -/

theorem startStop_updates (s : State) (n : Nat) : ∃ x : Mdc, x.device = .stopping ∧ x.modeTag = s.mdc.modeTag ∧
    Updates (s.withMdc x, n) (s.startStop, n) :=
  ⟨{ s.mdc.newStrands with device := .stopping, offHead := none }, rfl, rfl, Update.alone (.scn _)⟩

/-- An accepted MODE: its transition is taken up, and its reply waits (R134). -/
theorem acceptMode_updates (s : State) (n : Nat) (tag target : Byte) (h : s.mdc.device.moving = false) :
    Updates (s, n + 1) ((s.withMdc { s.mdc with modeTag := some tag }).startMode target, n) := by
  have deferred {t : State} (x : Mdc) (hd : x.device.moving = true) (ht : x.modeTag = some tag)
      (u : Updates (s.withMdc x, n) (t, n)) : Updates (s, n + 1) (t, n) :=
    u.after (.deferMode x h hd (by rw [ht]; rfl))
  unfold State.startMode
  split
  · exact deferred _ rfl rfl .refl
  · split
    · obtain ⟨x, hd, ht, u⟩ := startStop_updates (s.withMdc { s.mdc with modeTag := some tag }) n
      exact deferred x (by rw [hd]; rfl) ht u
    · split
      · obtain ⟨x, hd, ht, u⟩ := enterDoze_updates (s.withMdc { s.mdc with modeTag := some tag }) n
        exact deferred x (by rw [hd]; rfl) ht u
      · obtain ⟨x, hd, ht, u⟩ := beginWake_updates (s.withMdc { s.mdc with modeTag := some tag }) n .command 0
          s.ftb.tbc
        exact deferred x (by rw [hd]; rfl) ht u

/-- MODE is accepted outside a transition only (R134). -/
theorem modeVerdict_accepted {device : Device} {gov : GovState} {target : Byte}
    (h : modeVerdict device gov target = .accepted) : device.moving = false := by
  unfold modeVerdict at h
  split at h
  · cases h
  · next hm => simpa using hm

theorem mode_updates (s : State) (n : Nat) (tag target : Byte) : Updates (s, n + 1) (s.mode tag target, n) := by
  unfold State.mode
  split
  · exact replyTo_updates ..
  · exact replyTo_updates ..
  · next h => exact acceptMode_updates s n tag target (modeVerdict_accepted h)

theorem panelsOn_updates (s : State) (n : Nat) : Updates (s, n) (s.panelsOn, n) :=
  Updates.after (Update.alone (.scn _)) (.mdc { s.mdc with panel := .on } (.of_eq rfl rfl))

theorem panelsOff_updates (s : State) (n : Nat) : Updates (s, n) (s.panelsOff, n) := by
  unfold State.panelsOff
  dsimp only
  split
  · split
    · next tag ht => exact answerMode_updates s n _ _ _ (by rw [show s.mdc.modeTag = some tag from ht]; rfl)
    · next ht => exact Update.alone (.mdc _ (.of_none ht ht))
  · split
    · exact Updates.after (finishDoze_updates _ n) (.mdc _ (.of_eq rfl rfl))
    · exact Update.alone (.mdc _ (.of_eq rfl rfl))

theorem proximityEdge_updates (s : State) (n : Nat) : Updates (s, n) (s.proximityEdge, n) := by
  unfold State.proximityEdge
  split
  · exact beginWake_moving_updates s n _ _ _
  · exact refreshOffHead_updates s n

theorem setAutodoze_updates (s : State) (n : Nat) (tag : Byte) (f : AutodozeFields) :
    Updates (s, n + 1) (s.setAutodoze tag f, n) := by
  unfold State.setAutodoze
  split
  · exact replyTo_updates ..
  · dsimp only
    have answered (c : Status) : Updates (s, n + 1)
        (((s.withMdc (s.mdc.setAutodoze f)).refreshOffHead).replyTo 0x23 tag c [], n) :=
      Updates.after ((refreshOffHead_updates _ _).trans (replyTo_updates ..)) (.mdc _ (.of_eq rfl rfl))
    split
    · exact (answered _).trans (offHeadExpires_updates _ n)
    · exact answered _

end Sys2Proof.Machine
end

section
/-! The chains of updates of the Supply Monitor, the Scanout Engine, the Sideband Message Port and the Frame Timebase,
and the chain of every command: what a step can do. -/

namespace Sys2Proof.Machine

/-! ## The Supply Monitor -/

theorem Mon.Moves.trans {a b c : Mon} (h : a.Moves b) (k : b.Moves c) : a.Moves c :=
  ⟨k.tag.trans h.tag, k.sound ∘ h.sound, k.deferred ∘ h.deferred⟩

/-- A Supply Monitor that differs in what it has converted and reported only. -/
theorem Mon.Moves.of_eq {m x : Mon} (hs : m.Sound → x.Sound) (ht : x.oneShotTag = m.oneShotTag)
    (hse : x.series = m.series) (hr : x.round = m.round) (hw : x.waiting = m.waiting) : m.Moves x :=
  ⟨by rw [ht], hs, by simp only [Mon.Deferred, ht, hse, hr, hw]; exact id⟩

/-- A Supply Monitor with no ROUND ONE_SHOT in flight has no deferred work to keep. -/
theorem Mon.Moves.of_none {m x : Mon} (hs : m.Sound → x.Sound) (hm : m.Deferred → m.oneShotTag = none)
    (ht : x.oneShotTag = m.oneShotTag) : m.Moves x :=
  ⟨by rw [ht], hs, fun hd h => by rw [ht, hm hd] at h; cases h⟩

/-- A check arms or disarms the limits of an input and leaves their values (R121). -/
theorem check_ordered (x : WatchLimits) (v : Int) (h : x.ordered = true) : (x.check v).1.ordered = true := by
  have value (l : Limit) (b : Bool) : (l.check b).1.value = l.value := by unfold Limit.check; split <;> rfl
  revert h
  unfold WatchLimits.ordered WatchLimits.check
  cases x.low with
  | none => exact fun _ => rfl
  | some low =>
    cases x.high with
    | none => exact fun _ => rfl
    | some high =>
      dsimp only [Option.map_some]
      rw [value, value]
      exact id

theorem limit_ordered {m : Mon} (h : m.limits.all WatchLimits.ordered = true) (i : Nat) :
    (m.limit i).ordered = true := by
  unfold Mon.limit
  rcases Nat.lt_or_ge i m.limits.length with hi | hi
  · rw [List.getD_eq_getElem _ _ hi]
    exact List.all_eq_true.1 h _ (List.getElem_mem hi)
  · rw [List.getD_eq_default _ _ hi]; rfl

/-- Limits stay ordered where one pair is replaced by an ordered one. -/
theorem all_set_of {α : Type} {p : α → Bool} {l : List α} (h : l.all p = true) (i : Nat) {x : α} (hx : p x = true) :
    (l.set i x).all p = true := by
  rw [List.all_eq_true] at h ⊢
  intro y hy
  rcases List.mem_or_eq_of_mem_set hy with hy | rfl
  · exact h y hy
  · exact hx

theorem watchCheck_updates (s : State) (n input : Nat) (value : Int) (tbc : W32) :
    Updates (s, n) (s.watchCheck input value tbc, n) := by
  have notified (t : State) (c : Bool) (x : Notice) : Updates (t, n) (if c then t.notify x else t, n) := by
    split
    · exact Update.alone (.notify _)
    · exact .refl
  unfold State.watchCheck
  refine Updates.after ((notified _ _ _).trans (notified _ _ _)) (.mon _ (.of_eq (fun hs => ?_) rfl rfl rfl rfl))
  obtain ⟨h1, h2, h3, h4⟩ := hs
  exact ⟨h1, by simpa using h2, all_set_of h3 _ (check_ordered _ _ (limit_ordered h3 _)), h4⟩

/-- Notices leave the Supply Monitor, so a watch check changes its limits only (R121). -/
theorem watchCheck_mon (s : State) (input : Nat) (value : Int) (tbc : W32) :
    (s.watchCheck input value tbc).mon =
      { s.mon with limits := s.mon.limits.set input ((s.mon.limit input).check value).1 } := by
  unfold State.watchCheck
  dsimp only
  repeat' split
  all_goals simp

theorem undervoltage_mon (s : State) (vin : Nat) (tbc : W32) : (s.undervoltage vin tbc).mon = s.mon := by
  unfold State.undervoltage State.enterPowerFail
  repeat' split
  all_goals simp

theorem evaluate_mon (s : State) (vin iin : Nat) (skin : Int) (tbc : W32) :
    (s.evaluate vin iin skin tbc).mon = s.mon := by
  have full (t : State) : (t.evaluateFully vin iin skin tbc).mon = t.mon := by
    unfold State.evaluateFully
    dsimp only
    repeat' split
    all_goals simp
  unfold State.evaluate
  dsimp only
  repeat' split
  all_goals simp [full]

theorem startRound_sound {m : Mon} (h : m.Sound) (kind : RoundKind) {first last : Nat} (h1 : first ≤ last)
    (h2 : last ≤ 7) : (m.startRound kind first last).Sound := by
  obtain ⟨a, b, c, -, d⟩ := h
  exact ⟨a, b, c, by simp [Mon.startRound, Round.sound, h1, h2], d⟩

/-- The round that follows, where a ROUND ONE_SHOT that ran has been answered (R118). -/
theorem startNext_moves (m : Mon) (h : m.Deferred → m.oneShotTag.isSome → m.round.any (fun r => r.kind = .frame)) :
    m.Moves m.startNext := by
  unfold Mon.startNext
  split
  · refine ⟨rfl, fun hs => startRound_sound (m := { m with pendingFrame := false }) hs _ (by decide) (by decide),
      fun hd ht => ?_⟩
    obtain ⟨hser, ⟨hone, -⟩ | ⟨hframe, hw⟩⟩ := hd ht
    · have := h hd ht
      cases hr : m.round with
      | none => simp [hr] at this
      | some r => simp only [hr, Option.any_some, decide_eq_true_eq] at this hone; rw [this] at hone; cases hone
    · exact ⟨hser, .inr ⟨rfl, hw⟩⟩
  · split
    · next w hw =>
      refine ⟨rfl, fun hs => ?_, fun hd ht => ?_⟩
      · have hin := hs.2.2.2.2.1
        simp only [hw, Option.all_some, Bool.and_eq_true, decide_eq_true_eq] at hin
        refine startRound_sound (m := { m with waiting := none }) ?_ _ hin.1 hin.2
        obtain ⟨h1, h2, h3, h4, -, h6⟩ := hs
        exact ⟨h1, h2, h3, h4, rfl, h6⟩
      · obtain ⟨hser, ⟨-, hnone⟩ | ⟨-, hone⟩⟩ := hd ht
        · rw [hw] at hnone; cases hnone
        · simp only [hw, Option.any_some, decide_eq_true_eq] at hone
          exact ⟨hser, .inl ⟨by simp [Mon.startRound, hone], rfl⟩⟩
    · next hw =>
      refine ⟨rfl, fun hs => ?_, fun hd ht => ?_⟩
      · obtain ⟨h1, h2, h3, -, h5⟩ := hs
        exact ⟨h1, h2, h3, rfl, h5⟩
      · obtain ⟨-, ⟨hone, -⟩ | ⟨-, hwait⟩⟩ := hd ht
        · have := h hd ht
          cases hr : m.round with
          | none => simp [hr] at this
          | some r => simp only [hr, Option.any_some, decide_eq_true_eq] at this hone; rw [this] at hone; cases hone
        · simp [hw] at hwait

theorem monitorMark_updates (s : State) (n : Nat) : Updates (s, n) (s.monitorMark, n) := by
  unfold State.monitorMark
  split
  · next hr =>
    refine Update.alone (.mon _ ⟨rfl, fun hs => startRound_sound hs _ (by decide) (by decide), fun hd ht => ?_⟩)
    obtain ⟨-, ⟨h, -⟩ | ⟨h, -⟩⟩ := hd ht <;> simp [hr] at h
  · split
    · exact Update.alone (.count _ _)
    · exact Update.alone (.mon _ (.of_eq id rfl rfl rfl rfl))

/-- A report sets back the entries it carries and offers them (R122). -/
theorem formReport_updates (s : State) (n : Nat) (kind : RoundKind) : Updates (s, n) (s.formReport kind, n) := by
  unfold State.formReport
  split
  · exact .refl
  · refine Updates.after (Update.alone (.offerMonitor _)) (.mon _ (.of_eq (fun hs => ?_) rfl rfl rfl rfl))
    obtain ⟨h1, h2⟩ := hs
    exact ⟨by simpa using h1, h2⟩

theorem offerMonitor_mon (s : State) (r : MonReport) : (s.offerMonitor r).mon = s.mon := by
  unfold State.offerMonitor; simp

theorem formReport_mon (s : State) (kind : RoundKind) :
    (s.formReport kind).mon.round = s.mon.round ∧ (s.formReport kind).mon.oneShotTag = s.mon.oneShotTag := by
  unfold State.formReport
  split
  · exact ⟨rfl, rfl⟩
  · simp [offerMonitor_mon]

theorem countRound_updates (s : State) (n : Nat) : Updates (s, n) (s.countRound, n) := by
  unfold State.countRound
  split
  · exact .refl
  · next hne =>
    split
    · refine Updates.after (formReport_updates _ n _) (.mon _ (.of_eq (fun hs => ?_) rfl rfl rfl rfl))
      obtain ⟨h1, h2, h3, h4, h5, h6, -, -⟩ := hs
      exact ⟨h1, h2, h3, h4, h5, h6, fun _ => rfl, fun h => h⟩
    · next hlt =>
      refine Update.alone (.mon _ (.of_eq (fun hs => ?_) rfl rfl rfl rfl))
      obtain ⟨h1, h2, h3, h4, h5, h6, -, -⟩ := hs
      exact ⟨h1, h2, h3, h4, h5, h6, fun h => absurd h hne, fun _ => by dsimp only; omega⟩

theorem countRound_round (s : State) : s.countRound.mon.round = s.mon.round := by
  unfold State.countRound
  repeat' split
  · rfl
  · rw [(formReport_mon _ _).1]; rfl
  · rfl

/-- The deferred reply to ROUND ONE_SHOT leaves none deferred (R119, R120). -/
theorem answerRound_updates (s : State) (n : Nat) (st : Status) (done : List Reading) :
    Updates (s, n) (s.answerRound st done, n) := by
  unfold State.answerRound
  split
  · exact .refl
  · next tag h => exact Update.alone (.answerRound _ _ (by rw [h]; rfl) rfl id)

theorem answerRound_tag (s : State) (st : Status) (done : List Reading) :
    (s.answerRound st done).mon.oneShotTag = none := by
  unfold State.answerRound
  split
  · assumption
  · simp

theorem roundWork_updates (s : State) (n : Nat) (r : Round) (done : List Reading)
    (hr : ∃ q, s.mon.round = some q ∧ q.kind = r.kind ∧ q.first = r.first ∧ q.last = r.last) :
    Updates (s, n) (s.roundWork r done, n) := by
  obtain ⟨q, hq, hk, hf, hl⟩ := hr
  unfold State.roundWork
  split
  · exact (evaluate_updates s n _ _ _ _).trans (countRound_updates _ n)
  · exact answerRound_updates s n _ _
  · next hc =>
    dsimp only
    refine (formReport_updates s n .continuous).trans ?_
    split
    · refine Update.alone (.mon _ ?_)
      have hround := (formReport_mon s .continuous).1
      refine .of_none (fun hs => ?_) (fun hd => ?_) rfl
      · obtain ⟨h1, h2, h3, h4, -, h6⟩ := hs
        refine ⟨h1, h2, h3, h4, ?_, h6⟩
        simp only [hround, hq, Option.all_some, Round.sound, Bool.and_eq_true, decide_eq_true_eq] at h4
        simp only [Option.all_some, Bool.and_eq_true, decide_eq_true_eq]
        omega
      · by_contra hne
        obtain ⟨-, ⟨h, -⟩ | ⟨h, -⟩⟩ := hd (Option.isSome_iff_ne_none.2 hne) <;>
          simp [hround, hq, hk, hc] at h
    · exact .refl

/-- After a round's end work a ROUND ONE_SHOT that ran has been answered, and the ended round still stands. -/
theorem roundWork_ended (s : State) (r : Round) (done : List Reading)
    (hr : ∃ q, s.mon.round = some q ∧ q.kind = r.kind) (hd : (s.roundWork r done).mon.Deferred)
    (ht : (s.roundWork r done).mon.oneShotTag.isSome) :
    (s.roundWork r done).mon.round.any (fun r => r.kind = .frame) = true := by
  obtain ⟨q, hq, hk⟩ := hr
  unfold State.roundWork at hd ht ⊢
  cases hkind : r.kind with
  | frame => simp [countRound_round, evaluate_mon, hq, hk, hkind]
  | oneShot => simp [hkind, answerRound_tag] at ht
  | continuous =>
    simp only [hkind] at hd ht ⊢
    have hround := (formReport_mon s .continuous).1
    exfalso
    split at hd <;> simp only [*, if_true] at ht
    all_goals
      obtain ⟨-, ⟨h, -⟩ | ⟨h, -⟩⟩ := hd ht <;> simp [hround, hq, hk, hkind] at h

theorem endRound_updates (s : State) (n : Nat) (r : Round) (done : List Reading)
    (hr : ∃ q, s.mon.round = some q ∧ q.kind = r.kind ∧ q.first = r.first ∧ q.last = r.last) :
    Updates (s, n) (s.endRound r done, n) := by
  obtain ⟨q, hq, hk, -⟩ := id hr
  exact (roundWork_updates s n r done hr).trans
    (Update.alone (.mon _ (startNext_moves _ (roundWork_ended s r done ⟨q, hq, hk⟩))))

theorem conversion_updates (s : State) (n : Nat) (code : BitVec 12) : Updates (s, n) (s.conversion code, n) := by
  unfold State.conversion
  split
  · exact .refl
  · next r hr =>
    dsimp only
    set v := inputValue r.input code
    set a := s.withMon (s.mon.setEntry r.input ((s.mon.entry r.input).update v s.ftb.tbc)) with ha
    have h1 : Updates (s, n) (a, n) := by
      refine Update.alone (.mon _ (.of_eq (fun hs => ?_) rfl rfl rfl rfl))
      obtain ⟨h1, h2⟩ := hs
      exact ⟨by simpa [Mon.setEntry] using h1, h2⟩
    set b := a.watchCheck r.input v s.ftb.tbc with hb
    have h2 : Updates (a, n) (b, n) := watchCheck_updates a n _ _ _
    set c := if r.input = 0 then b.undervoltage v.toNat s.ftb.tbc else b with hc
    have h3 : Updates (b, n) (c, n) := by
      rw [hc]; split
      · exact undervoltage_updates b n _ _
      · exact .refl
    have hcm : c.mon = b.mon := by
      rw [hc]; split
      · exact undervoltage_mon ..
      · rfl
    have hround : c.mon.round = some r := by rw [hcm, hb, watchCheck_mon, ha]; exact hr
    refine ((h1.trans h2).trans h3).trans ?_
    split
    · next hlt =>
      refine Update.alone (.mon _ ⟨rfl, fun hs => ?_, fun hd ht => ?_⟩)
      · obtain ⟨g1, g2, g3, g4, g5⟩ := hs
        refine ⟨g1, g2, g3, ?_, g5⟩
        simp only [hround, Option.all_some, Round.sound, Bool.and_eq_true, decide_eq_true_eq] at g4 ⊢
        omega
      · have := hd ht
        rw [hround] at this
        exact this
    · exact endRound_updates c n r _ ⟨r, hround, rfl, rfl, rfl⟩

/-- A Supply Monitor with no on-demand work has no ROUND ONE_SHOT in flight (R119). -/
theorem Mon.Deferred.tag_none {m : Mon} (hd : m.Deferred) (h : m.onDemand = false) : m.oneShotTag = none := by
  by_contra hne
  simp only [Mon.onDemand, Bool.or_eq_false_iff] at h
  obtain ⟨⟨hr, hw⟩, -⟩ := h
  obtain ⟨-, ⟨hone, -⟩ | ⟨-, hone⟩⟩ := hd (Option.isSome_iff_ne_none.2 hne)
  · cases hround : m.round with
    | none => simp [hround] at hone
    | some r => simp only [hround, Option.any_some, decide_eq_true_eq] at hone hr; simp [hone] at hr
  · cases hwait : m.waiting with
    | none => simp [hwait] at hone
    | some w => simp [hwait] at hw

theorem demand_sound {m : Mon} (h : m.Sound) (kind : RoundKind) {first last : Nat} (h1 : first ≤ last)
    (h2 : last ≤ 7) : (m.demand kind first last).Sound := by
  unfold Mon.demand
  split
  · exact startRound_sound h kind h1 h2
  · obtain ⟨a, b, c, d, -, e⟩ := h
    exact ⟨a, b, c, d, by simp [h1, h2], e⟩

theorem demand_tag (m : Mon) (kind : RoundKind) (first last : Nat) :
    (m.demand kind first last).oneShotTag = m.oneShotTag := by
  unfold Mon.demand; split <;> rfl

/-- A ROUND ONE_SHOT that is accepted runs on an IDLE converter, and behind a frame round it waits (R118). -/
theorem demand_deferred {m : Mon} (h : m.onDemand = false) (first last : Nat) (tag : Byte) :
    (({ m with oneShotTag := some tag } : Mon).demand .oneShot first last).Deferred := by
  simp only [Mon.onDemand, Bool.or_eq_false_iff] at h
  obtain ⟨⟨hr, hw⟩, hs⟩ := h
  intro _
  unfold Mon.demand
  split
  · exact ⟨by simpa [Mon.startRound] using hs, .inl ⟨by simp [Mon.startRound], by simpa [Mon.startRound] using hw⟩⟩
  · next q hq =>
    refine ⟨by simpa using hs, .inr ⟨?_, by simp⟩⟩
    have hq : m.round = some q := hq
    simpa [hq] using hr

/-- What ROUND asks of an accepted range (R119). -/
theorem roundRefusal_none {s : State} {mode first last : Byte} (h : roundRefusal s mode first last = none) :
    s.mon.onDemand = false ∧ first.toNat ≤ last.toNat ∧ last.toNat ≤ 7 := by
  unfold roundRefusal at h
  split at h
  · cases h
  · split at h
    · cases h
    · next hd =>
      split at h
      · cases h
      · next hr =>
        simp only [Bool.or_eq_true, decide_eq_true_eq, not_or] at hr
        exact ⟨by simpa using hd, by omega, by omega⟩

theorem round_updates (s : State) (n : Nat) (tag mode first last : Byte) :
    Updates (s, n + 1) (s.round tag mode first last, n) := by
  unfold State.round
  split
  · exact replyTo_updates ..
  · next h =>
    obtain ⟨hd, h1, h2⟩ := roundRefusal_none h
    split
    · exact Update.alone (.deferRound _ hd (by rw [demand_tag]; rfl) (fun hs =>
        demand_sound (m := { s.mon with oneShotTag := some tag }) hs _ h1 h2)
        (demand_deferred hd _ _ _))
    · refine Updates.after (replyTo_updates ..) (.mon _ (.of_none (fun hs => ?_) (fun hm => hm.tag_none hd) ?_))
      · exact demand_sound (m := { s.mon with series := true }) hs _ h1 h2
      · exact demand_tag ..

theorem abortRound_updates (s : State) (n : Nat) : Updates (s, n) (s.abortRound, n) := by
  unfold State.abortRound
  split
  · exact .refl
  · split
    · exact answerRound_updates s n _ _
    · exact .refl

theorem withWaiting_none_sound {m : Mon} (h : m.Sound) : ({ m with waiting := none } : Mon).Sound := by
  obtain ⟨h1, h2, h3, h4, -, h6⟩ := h
  exact ⟨h1, h2, h3, h4, rfl, h6⟩

theorem abortWaiting_updates (s : State) (n : Nat) : Updates (s, n) (s.abortWaiting, n) := by
  unfold State.abortWaiting
  dsimp only
  split
  · unfold State.answerRound
    split
    · next h => exact Update.alone (.mon _ (.of_none withWaiting_none_sound (fun _ => h) rfl))
    · next tag h =>
      exact Update.alone (.answerRound { s.mon with waiting := none, oneShotTag := none } _
        (by rw [show s.mon.oneShotTag = some tag from h]; rfl) rfl withWaiting_none_sound)
  · next hw =>
    refine Update.alone (.mon _ ⟨rfl, withWaiting_none_sound, fun hd ht => ?_⟩)
    obtain ⟨hs, ⟨hr, -⟩ | ⟨-, h⟩⟩ := hd ht
    · exact ⟨hs, .inl ⟨hr, rfl⟩⟩
    · exact absurd h hw

/-- A ROUND ONE_SHOT answered leaves the round as it stands. -/
theorem answerRound_round (s : State) (st : Status) (done : List Reading) :
    (s.answerRound st done).mon.round = s.mon.round := by
  unfold State.answerRound; split <;> simp

theorem abortRound_round (s : State) : s.abortRound.mon.round = s.mon.round := by
  unfold State.abortRound
  repeat' split
  · rfl
  · exact answerRound_round ..
  · rfl

theorem abortWaiting_round (s : State) : s.abortWaiting.mon.round = s.mon.round := by
  unfold State.abortWaiting
  dsimp only
  split
  · exact answerRound_round ..
  · rfl

/-- A waiting round that is removed leaves no other ROUND ONE_SHOT in flight than one that runs (R120). -/
theorem abortWaiting_tag (s : State) (h : s.mon.oneShotTag = none) : s.abortWaiting.mon.oneShotTag = none := by
  unfold State.abortWaiting
  dsimp only
  split
  · exact answerRound_tag ..
  · exact h

/-- Where an on-demand round ran, a stop leaves a ROUND ONE_SHOT in flight only beside a round of a series (R120). -/
theorem aborted_round_kind {s : State} {r : Round} (hr : s.mon.round = some r) (hk : r.kind ≠ .frame)
    (ht : s.abortRound.abortWaiting.mon.oneShotTag.isSome) :
    s.abortRound.abortWaiting.mon.round = some r ∧ r.kind = .continuous := by
  refine ⟨by rw [abortWaiting_round, abortRound_round, hr], ?_⟩
  cases hkind : r.kind with
  | frame => exact absurd hkind hk
  | continuous => rfl
  | oneShot =>
    have answered : s.abortRound.mon.oneShotTag = none := by
      simp only [State.abortRound, hr, hkind, if_true]
      exact answerRound_tag ..
    rw [abortWaiting_tag _ answered] at ht
    cases ht

theorem stopMonitor_updates (s : State) (n : Nat) : Updates (s, n) (s.stopMonitor, n) := by
  let t := s.abortRound.abortWaiting
  have ended : Updates (s, n) (t, n) := (abortRound_updates s n).trans (abortWaiting_updates _ n)
  have stopped : t.mon.Moves { t.mon with series := false } :=
    ⟨rfl, id, fun hd ht => ⟨rfl, (hd ht).2⟩⟩
  unfold State.stopMonitor
  dsimp only
  refine ended.trans ?_
  split
  · next hrun =>
    obtain ⟨r, hr, hk⟩ : ∃ r, s.mon.round = some r ∧ r.kind ≠ .frame := by
      cases hr : s.mon.round with
      | none => simp [hr] at hrun
      | some r => exact ⟨r, rfl, by simpa [hr] using hrun⟩
    refine Updates.after (Update.alone (.mon _ (startNext_moves _ fun hd ht => ?_))) (.mon _ stopped)
    obtain ⟨hround, hkind⟩ := aborted_round_kind hr hk ht
    obtain ⟨-, ⟨h, -⟩ | ⟨h, -⟩⟩ := hd ht <;>
      simp only [withMon_mon, hround, Option.any_some, hkind, decide_eq_true_eq, reduceCtorEq] at h
  · exact Update.alone (.mon _ stopped)

/-- An item whose limits do not cross writes an ordered pair (R124). -/
theorem itemLimits_ordered {x : LimitItem} (h : itemCrossed x = false) :
    ({ low := writtenLimit (itemLimits x).1, high := writtenLimit (itemLimits x).2 } : WatchLimits).ordered = true := by
  unfold itemCrossed at h
  split at h
  · next low high heq => simp only [decide_eq_false_iff_not, not_lt] at h; simp [WatchLimits.ordered, heq, writtenLimit, h]
  · next hne =>
    unfold WatchLimits.ordered
    cases h1 : (itemLimits x).1 <;> cases h2 : (itemLimits x).2 <;> simp [writtenLimit]
    exact absurd (Prod.ext h1 h2) (hne _ _)

theorem setItem_moves (m : Mon) (x : LimitItem) (h : itemCrossed x = false) : m.Moves (m.setItem x) := by
  refine .of_eq (fun hs => ?_) rfl rfl rfl rfl
  obtain ⟨h1, h2, h3, h4⟩ := hs
  exact ⟨h1, by simpa [Mon.setItem] using h2, all_set_of h3 _ (itemLimits_ordered h), h4⟩

theorem setItems_moves (m : Mon) (items : List LimitItem) (h : items.any itemCrossed = false) :
    m.Moves (items.foldl Mon.setItem m) := by
  induction items generalizing m with
  | nil => exact ⟨rfl, id, id⟩
  | cons x xs ih =>
    simp only [List.any_cons, Bool.or_eq_false_iff] at h
    exact (setItem_moves m x h.1).trans (ih _ h.2)

theorem monSet_moves (m : Mon) (f : MonitorFields) (h : f.items.any itemCrossed = false) : m.Moves (m.set f) := by
  let given : Mon := { m with mask := f.mask.getD m.mask, divider := field16 0 255 f.divider m.divider,
                              divCount := if f.divider.isSome then 0 else m.divCount }
  refine Mon.Moves.trans (b := given) (.of_eq (fun hs => ?_) rfl rfl rfl rfl) (setItems_moves given _ h)
  obtain ⟨h1, h2, h3, h4, h5, h6, h7, h8⟩ := hs
  refine ⟨h1, h2, h3, h4, h5, (field16_mem (Nat.zero_le _) ⟨Nat.zero_le _, h6⟩).2, ?_, ?_⟩
  · show field16 0 255 f.divider m.divider = 0 → (if f.divider.isSome then 0 else m.divCount) = 0
    cases f.divider with
    | none => exact h7
    | some v => exact fun _ => rfl
  · show 0 < field16 0 255 f.divider m.divider →
      (if f.divider.isSome then 0 else m.divCount) < field16 0 255 f.divider m.divider
    cases f.divider with
    | none => exact h8
    | some v => exact id

theorem setMonitor_updates (s : State) (n : Nat) (tag : Byte) (f : MonitorFields) :
    Updates (s, n + 1) (s.setMonitor tag f, n) := by
  unfold State.setMonitor
  split
  · exact replyTo_updates ..
  · next h =>
    have ordered : f.items.any itemCrossed = false := by
      unfold monitorRefusal at h
      repeat' split at h
      all_goals simp_all
    exact Updates.after (replyTo_updates ..) (.mon _ (monSet_moves _ _ ordered))

end Sys2Proof.Machine
end

section
/-! The chains of updates of the Scanout Engine, the Sideband Message Port and the Frame Timebase, and the chain of every
command. -/

namespace Sys2Proof.Machine

/-! ## Slice Memory -/

theorem CellMoves.refl (tbc : W32) (c : Option Slice) : CellMoves tbc c c :=
  ⟨fun y h => ⟨y, h, rfl, rfl, id, id, fun hr => .inl ⟨hr, rfl, rfl⟩⟩, fun x h hf => ⟨x, h, hf⟩⟩

theorem CellMoves.trans {tbc : W32} {a b c : Option Slice} (h : CellMoves tbc a b) (k : CellMoves tbc b c) :
    CellMoves tbc a c := by
  refine ⟨fun z hz => ?_, fun x hx hf => ?_⟩
  · obtain ⟨y, hy, he, hi, hf, hr, ha⟩ := k.came z hz
    obtain ⟨x, hx, he', hi', hf', hr', ha'⟩ := h.came y hy
    refine ⟨x, hx, he.trans he', hi.trans hi', hf' ∘ hf, hr' ∘ hr, fun hret => ?_⟩
    rcases ha hret with ⟨hyr, hage, hend⟩ | hnew
    · rw [hage, hend]; exact ha' hyr
    · exact .inr hnew
  · obtain ⟨y, hy, hyf⟩ := h.fills x hx hf
    exact k.fills y hy hyf

theorem Slm.Moves.refl (tbc : W32) (m : Slm) : m.Moves tbc m := ⟨rfl, fun _ => .refl _ _⟩

theorem Slm.Moves.trans {tbc : W32} {a b c : Slm} (h : a.Moves tbc b) (k : b.Moves tbc c) : a.Moves tbc c :=
  ⟨k.length.trans h.length, fun i => (h.cell i).trans (k.cell i)⟩

/-- A slice changed in its cell. -/
theorem updateCell_moves {tbc : W32} {m : Slm} {i : Nat} {f : Slice → Slice}
    (h : ∀ x, m.slice i = some x → CellMoves tbc (some x) (some (f x))) : m.Moves tbc (m.updateCell i f) := by
  refine ⟨length_setCell .., fun j => ?_⟩
  by_cases hj : j = i
  · subst hj
    cases hx : m.slice j with
    | none =>
      rw [Slm.updateCell, hx, Option.map_none]
      rcases Nat.lt_or_ge j m.cells.length with hlt | hge
      · rw [slice_setCell_same _ hlt]; exact .refl _ _
      · rw [Slm.setCell, List.set_eq_of_length_le hge, hx]; exact .refl _ _
    | some x =>
      rw [Slm.updateCell, hx, Option.map_some, slice_setCell_same _ (lt_length_of_slice hx)]
      exact h x hx
  · rw [Slm.updateCell, slice_setCell_other _ hj]; exact .refl _ _

theorem pin_moves (tbc : W32) (m : Slm) (i : Option Nat) : m.Moves tbc (m.pin i) := by
  cases i with
  | none => exact .refl _ _
  | some i =>
    exact updateCell_moves fun x _ =>
      ⟨by rintro y ⟨⟩; exact ⟨x, rfl, rfl, rfl, id, id, fun hr => .inl ⟨hr, rfl, rfl⟩⟩,
        by rintro y ⟨⟩ hf; exact ⟨_, rfl, hf⟩⟩

/-- A slice that is neither FILLING nor RETAINED when its window ends (R35). -/
theorem endWindow_cell (tbc : W32) (x : Slice) : CellMoves tbc (some x) (x.endWindow tbc) := by
  unfold Slice.endWindow
  by_cases hs : x.phase = .scanning
  · simp only [hs, if_true, reduceCtorEq, if_false]
    refine ⟨fun y hy => ⟨x, rfl, ?_⟩, fun z hz hf => ?_⟩
    · split at hy <;> cases hy <;> simp
    · cases hz; rw [hs] at hf; cases hf
  · simp only [hs, if_false]
    refine ⟨fun y hy => ⟨x, rfl, ?_⟩, fun z hz hf => ?_⟩
    · repeat' split at hy
      all_goals cases hy
      all_goals exact ⟨rfl, rfl, id, id, fun hr => .inl ⟨hr, rfl, rfl⟩⟩
    · obtain rfl := Option.some.inj hz
      simp only [hf, reduceCtorEq, if_false]
      split
      · exact ⟨_, rfl, rfl⟩
      · exact ⟨_, rfl, hf⟩

theorem endWindow_moves (tbc : W32) (m : Slm) (e : Eye) : m.Moves tbc (m.endWindow e tbc) := by
  refine ⟨by simp [Slm.endWindow], fun i => ?_⟩
  have slice : (m.endWindow e tbc).slice i =
      (m.slice i).bind (fun x => if x.eye = e then x.endWindow tbc else some x) := by
    unfold Slm.slice Slm.endWindow
    cases h : m.cells[i]? <;> simp [h, Option.join]
  rw [slice]
  cases m.slice i with
  | none => exact .refl _ _
  | some x =>
    rw [Option.bind_some]
    split
    · exact endWindow_cell tbc x
    · exact .refl _ _

/-- A take finds a READY or a RETAINED cell (R31). -/
theorem resolve_some {m : Slm} {e : Eye} {k hold i : Nat} (h : (m.resolve e k hold).2 = some i) :
    ∃ x, m.slice i = some x ∧ (x.phase = .ready ∨ x.phase = .retained) := by
  unfold Slm.resolve at h
  split at h
  · next j hj =>
    obtain rfl := Option.some.inj h
    obtain ⟨x, hx, hr, -⟩ := readyCell_some hj
    exact ⟨x, hx, .inl hr⟩
  · split at h
    · cases h
    · next j hj =>
      obtain ⟨x, hx, hr, -⟩ := newest_some hj
      split at h
      · obtain rfl := Option.some.inj h
        exact ⟨x, hx, .inr hr⟩
      · cases h

/-- The table in which a take is resolved: the window before it is ended first (R35). -/
def Slm.beforeTake (m : Slm) (e : Eye) (k : Nat) (tbc : W32) : Slm :=
  if k = 0 then { m with up := m.up.put e none } else m.endWindow e tbc

theorem beforeTake_moves (m : Slm) (e : Eye) (k : Nat) (tbc : W32) : m.Moves tbc (m.beforeTake e k tbc) := by
  unfold Slm.beforeTake
  split
  · exact ⟨rfl, fun _ => .refl _ _⟩
  · exact endWindow_moves tbc m e

theorem takeRequest_eq (m : Slm) (e : Eye) (k hold : Nat) (tbc : W32) :
    m.takeRequest e k hold tbc =
      match ((m.beforeTake e k tbc).resolve e k hold).2 with
      | none => (((m.beforeTake e k tbc).resolve e k hold).1, none, m.beforeTake e k tbc)
      | some i => (((m.beforeTake e k tbc).resolve e k hold).1, some i,
          (m.beforeTake e k tbc).updateCell i (Slice.taken ((m.beforeTake e k tbc).resolve e k hold).1)) := rfl

theorem takeRequest_moves (m : Slm) (e : Eye) (k hold : Nat) (tbc : W32) :
    m.Moves tbc (m.takeRequest e k hold tbc).2.2 := by
  rw [takeRequest_eq]
  cases hr : ((m.beforeTake e k tbc).resolve e k hold).2 with
  | none => exact beforeTake_moves m e k tbc
  | some i =>
    obtain ⟨x, hx, hphase⟩ := resolve_some hr
    refine (beforeTake_moves m e k tbc).trans (updateCell_moves fun y hy => ?_)
    obtain rfl : x = y := Option.some.inj (hx.symm.trans hy)
    refine ⟨?_, ?_⟩
    · rintro z ⟨⟩
      exact ⟨x, rfl, by simp [Slice.taken]⟩
    · rintro z ⟨⟩ hf
      rcases hphase with h | h <;> rw [h] at hf <;> cases hf

/-! ## Takes and frames -/

theorem takeBlank_updates (s : State) (n : Nat) (e : Eye) (k : Nat) : Updates (s, n) (s.takeBlank e k, n) :=
  Update.alone (.scn _)

theorem takeCell_updates (s : State) (n : Nat) (e : Eye) (k : Nat) (o : TakeOutcome) (i : Nat) (x : Slice) :
    Updates (s, n) (s.takeCell e k o i x, n) :=
  Updates.after (Updates.after (Update.alone (.scn _)) (.slm _ ((pin_moves _ _ _).trans (pin_moves _ _ _))))
    (.mot (s.requestShift e x.ref (s.scn.photonCentre e) (s.ftb.takeTbc k)).2.mot (.of_eq id rfl rfl rfl rfl rfl rfl))

theorem takeSlice_updates (s : State) (n : Nat) (e : Eye) (k : Nat) : Updates (s, n) (s.takeSlice e k, n) := by
  unfold State.takeSlice
  dsimp only
  refine Updates.after (Relation.ReflTransGen.trans (b := (_, n)) ?_ (Update.alone (.scn _)))
    (.slm _ (takeRequest_moves s.slm e k s.ftb.live.hold s.ftb.tbc))
  split
  · exact takeBlank_updates _ n e k
  · exact takeCell_updates _ n e k ..

theorem endWindows_updates (s : State) (n : Nat) : Updates (s, n) (s.endWindows, n) :=
  Updates.after (Update.alone (.scn _)) (.slm _ ((endWindow_moves _ _ _).trans (endWindow_moves _ _ _)))

theorem scanMark_updates (s : State) (n : Nat) : Updates (s, n) (s.scanMark, n) := by
  unfold State.scanMark
  split
  · exact Update.alone (.scn _)
  · exact .refl

theorem fixFrame_updates (s : State) (n : Nat) : Updates (s, n) (s.fixFrame, n) :=
  Updates.after (Update.alone (.scn _)) (.ftb _ (by constructor <;> rfl))

theorem darkFrame_updates (s : State) (n : Nat) : Updates (s, n) (s.darkFrame, n) :=
  Updates.after (Update.alone (.scn _)) (.ftb { s.ftb with pulse := Eyes.both none } (by constructor <;> rfl))

theorem emitReport_updates (s : State) (n : Nat) : Updates (s, n) (s.emitReport, n) := by
  unfold State.emitReport
  split
  · exact Update.alone (.offerFrame _)
  · exact .refl

theorem scanWrap_updates (s : State) (n : Nat) : Updates (s, n) (s.scanWrap, n) := by
  unfold State.scanWrap
  split
  · exact darkFrame_updates s n
  · exact Updates.after ((fixFrame_updates _ n).trans (scanningBegun_updates _ n)) (.scn _)
  · exact (emitReport_updates s n).trans (fixFrame_updates _ n)
  · exact (emitReport_updates s n).trans
      (Updates.after ((darkFrame_updates _ n).trans (scanningStopped_updates _ n)) (.scn _))

/-- A frame wrap: the end request of the frame that ends, the wrap of the Frame Timebase, and what follows from it. -/
theorem wrapFrame_updates (s : State) (n : Nat) : ∃ u, u.ftb = s.ftb ∧ Updates (s, n) (u, n) ∧
    Updates (u.withFtb (u.ftb.wrap (u.gov.state = .powerFail)), n) (s.wrapFrame, n) := by
  refine ⟨if s.endRequestIsDue then s.endWindows else s, ?_, ?_, scanWrap_updates _ n⟩
  · split <;> rfl
  split
  · exact endWindows_updates s n
  · exact .refl

theorem raiseMark_updates (s : State) (n : Nat) (ch : MarkChannel) : Updates (s, n) (s.raiseMark ch, n) := by
  have raised : s.ftb.Quiet (s.ftb.raise ch) := by cases ch <;> constructor <;> rfl
  unfold State.raiseMark
  cases ch with
  | ec2 => exact Updates.after (scanMark_updates _ n) (.ftb _ raised)
  | ec3 => exact Updates.after (monitorMark_updates _ n) (.ftb _ raised)
  | ec4 => exact Updates.after (wakeMark_updates _ n) (.ftb _ raised)

theorem captureEdge_updates (s : State) (n : Nat) : Updates (s, n) (s.captureEdge, n) := by
  unfold State.captureEdge
  split
  · exact Update.alone (.ftb _ (by constructor <;> rfl))
  · exact Updates.after (takeCapture_updates _ n _) (.ftb _ (by constructor <;> rfl))

/-! ## The staging transaction (R6, R7) -/

/-- A candidate is staged only where it is consistent; the command is answered either way. -/
theorem stage_updates (s : State) (n : Nat) (c : Instr) (tag : Byte) (bad clamped : Bool) (t : TimingSet)
    (h : s.ftb.staged.InRange → t.InRange) : Updates (s, n + 1) (s.stage c tag bad clamped t, n) := by
  unfold State.stage
  dsimp only
  split
  · exact replyTo_updates ..
  · next hc =>
    simp only [Bool.or_eq_true, Bool.not_eq_true', not_or, Bool.not_eq_false] at hc
    exact Updates.after (replyTo_updates ..) (.stage t hc.2 h)

theorem timingCandidate_inRange {t : TimingSet} (f : TimingFields) (h : t.InRange) :
    (timingCandidate t f).InRange := by
  obtain ⟨h1, h2, h3, h4, h5⟩ := h
  exact ⟨(field16_mem (by decide) ⟨h1, h2⟩).1, (field16_mem (by decide) ⟨h1, h2⟩).2,
    (field16_mem (by decide) ⟨h3, h4⟩).1, (field16_mem (by decide) ⟨h3, h4⟩).2, h5⟩

theorem syncCandidate_inRange {t : TimingSet} (f : SyncFields) (h : t.InRange) : (syncCandidate t f).InRange := by
  obtain ⟨h1, h2, h3, h4, h5, h6, h7, h8⟩ := h
  exact ⟨h1, h2, h3, h4, h5, h6, (field16_mem (Nat.zero_le _) ⟨Nat.zero_le _, h7⟩).2, h8⟩

theorem strobeCandidate_inRange {t : TimingSet} (f : StrobeFields) (h : t.InRange) :
    (strobeCandidate t f).InRange := by
  obtain ⟨h1, h2, h3, h4, h5, h6, h7⟩ := h
  exact ⟨h1, h2, h3, h4, (field16_mem (Nat.zero_le _) ⟨Nat.zero_le _, h5⟩).2,
    (field16_mem (Nat.zero_le _) ⟨Nat.zero_le _, h6⟩).2, h7⟩

theorem shiftCandidate_inRange {t : TimingSet} (f : ShiftFields) (h : t.InRange) : (shiftCandidate t f).InRange := by
  obtain ⟨h1, h2, h3, h4, h5, h6, h7, h8, h9, h10, h11, h12, h13, h14⟩ := h
  exact ⟨h1, h2, h3, h4, h5, h6, h7, (field16_mem (Nat.zero_le _) ⟨Nat.zero_le _, h8⟩).2,
    (field16_mem (Nat.zero_le _) ⟨Nat.zero_le _, h9⟩).2, (field16_mem (Nat.zero_le _) ⟨Nat.zero_le _, h10⟩).2,
    (field16_mem (Nat.zero_le _) ⟨Nat.zero_le _, h11⟩).2, (field16_mem (by decide) ⟨h12, h13⟩).1,
    (field16_mem (by decide) ⟨h12, h13⟩).2, h14⟩

theorem holdCandidate_inRange {t : TimingSet} (v : Nat) (h : t.InRange) :
    ({ t with hold := field 0 15 v } : TimingSet).InRange := by
  obtain ⟨h1, h2, h3, h4, h5, h6, h7, h8, h9, h10, h11, h12, h13, -⟩ := h
  exact ⟨h1, h2, h3, h4, h5, h6, h7, h8, h9, h10, h11, h12, h13, (field_mem (Nat.zero_le _)).2⟩

theorem setLane_updates (s : State) (n : Nat) (tag : Byte) (f : LaneFields) :
    Updates (s, n + 1) (s.setLane tag f, n) := by
  unfold State.setLane
  dsimp only
  split
  · exact stage_updates _ n _ _ _ _ _ id
  · exact Updates.after (stage_updates _ n _ _ _ _ _ id) (.plr _ (.of_eq rfl rfl))

/-! ## The Sideband Message Port -/

theorem receiveRecord_updates (s : State) (n : Nat) (body : List Byte) (crc : W16) :
    Updates (s, n) (s.receiveRecord body crc, n) := by
  unfold State.receiveRecord State.receiveCommand
  split
  · exact Update.alone (.count _ _)
  · split
    · exact Update.alone (.count _ _)
    · split
      · exact Update.alone (.answerAtReception ..)
      · exact Update.alone (.answerAtReception ..)
      · exact Update.alone (.offerCommand ..)

theorem parse_updates (k : Nat) (s : State) (n : Nat) (bytes : List Byte) :
    Updates (s, n) (State.parse k s bytes, n) := by
  induction k generalizing s bytes with
  | zero => exact Update.alone (.rx _ s.smp.rxIdle)
  | succ k ih =>
    unfold State.parse
    split
    · exact Update.alone (.rx _ s.smp.rxIdle)
    · exact (ih _ _).after (.count _ _)
    · exact (receiveRecord_updates s n _ _).trans (ih _ _)

theorem feed_updates (s : State) (n : Nat) (bytes : List Byte) : Updates (s, n) (s.feed bytes, n) :=
  Updates.after (parse_updates _ _ n _) (.rx s.smp.rx 0)

theorem byteTimeout_updates (s : State) (n : Nat) : Updates (s, n) (s.byteTimeout, n) :=
  Updates.after (Update.alone (.count _ _)) (.rx [] 0)

theorem readClear_updates (s : State) (n : Nat) (tag : Byte) : Updates (s, n + 1) (s.readClear tag, n) := by
  unfold State.readClear
  split
  · exact replyTo_updates ..
  · exact Updates.after (Update.alone (.reply _)) .subtraction

/-! ## Every command -/

/-- An event of the part is a chain of updates where it is due, and nothing elsewhere. -/
theorem occur_updates {due : State → Bool} {effect : State → State} {s t : State}
    (h : occur due effect s = .next t) (he : due s = true → Updates (s, 0) (effect s, 0)) :
    Updates (s, 0) (t, 0) := by
  obtain rfl := Host.Outcome.next.inj h
  split
  · next hd => exact he (Bool.and_eq_true_iff.1 hd).2
  · exact .refl

/-- A host command is a chain of updates from its claim to its reply, or is unheard, or meets a part held in reset. -/
theorem execute_updates {c : Instr} {effect : State → State} {s t : State} (h : execute c effect s = .next t)
    (he : ∀ u, Updates (u, 1) (effect u, 0)) : Updates (s, 0) (t, 0) := by
  unfold execute at h
  split at h
  · obtain rfl := Host.Outcome.next.inj h; exact .refl
  · split at h
    · next u hu => obtain rfl := Host.Outcome.next.inj h; exact (he u).after (.claim c hu)
    · obtain rfl := Host.Outcome.next.inj h; exact Update.alone (.count _ _)

/-- A host command with no effect but its reply. -/
theorem execute_reply_updates {c : Instr} {code tag : Byte} {st : Status} {data : State → List Byte} {s t : State}
    (h : execute c (fun s => s.replyTo code tag st (data s)) s = .next t) : Updates (s, 0) (t, 0) :=
  execute_updates h fun _ => replyTo_updates ..

/-- Every command but a reset and the frame wrap is a chain of elementary updates. -/
theorem exec_updates {c : Instr} {s t : State} (hr : resetsThePart c = false) (hw : c ≠ .frameWrap)
    (h : exec c s = .next t) : Updates (s, 0) (t, 0) := by
  unfold exec at h
  cases c with
  | resetRelease | powerOnReset | supplyDipReset | sidebandLoss | reset tag => cases hr
  | frameWrap => exact absurd rfl hw
  | mark ch => exact occur_updates h fun _ => raiseMark_updates s 0 ch
  | strobeOn e =>
    refine occur_updates h fun hd => Update.alone (.strobe e true fun _ => ?_)
    simp only [State.strobeOnIsDue, Ftb.pulseOn, Bool.and_eq_true, Bool.not_eq_true'] at hd
    exact hd.2.1
  | strobeOff e => exact occur_updates h fun _ => Update.alone (.strobe e false (by simp))
  | syncPulseStart => exact occur_updates h fun _ => Update.alone (.ftb _ (by constructor <;> rfl))
  | syncPulseEnd => exact occur_updates h fun _ => Update.alone (.ftb _ (by constructor <;> rfl))
  | dataReadyEdge rising => exact occur_updates h fun _ => captureEdge_updates s 0
  | take e k => exact occur_updates h fun _ => takeSlice_updates s 0 e k
  | endRequest => exact occur_updates h fun _ => endWindows_updates s 0
  | signalDetected =>
    obtain rfl := Host.Outcome.next.inj h
    refine Update.alone (.plr _ ?_)
    split
    · next hd =>
      simp only [Bool.and_eq_true, decide_eq_true_eq] at hd
      exact .of_lane (.inl (by rw [hd.2]; decide)) rfl
    · exact .of_eq rfl rfl
  | trainingLock => exact occur_updates h fun hd => laneActive_updates s 0 (by rw [of_decide_eq_true hd]; decide)
  | trainingTimeout =>
    refine occur_updates h fun hd => Update.alone (.plr _ (.of_lane (.inl ?_) rfl))
    simp only [State.trainingTimeoutIsDue, Bool.and_eq_true, decide_eq_true_eq] at hd
    rw [hd.1]; decide
  | signalLoss =>
    obtain rfl := Host.Outcome.next.inj h
    split
    · exact Update.alone (.plr _ (.of_eq rfl rfl))
    · exact signalLost_updates s 0
  | activityInIdle => exact occur_updates h fun hd => activityInIdle_updates s 0 (of_decide_eq_true hd)
  | burstStart header => exact occur_updates h fun _ => startBurst_updates s 0 header
  | burstEnd payload crc => exact occur_updates h fun _ => endBurst_updates s 0 payload crc
  | wakingEnd =>
    refine occur_updates h fun hd => laneActive_updates s 0 ?_
    simp only [State.wakingEndIsDue, Bool.and_eq_true, decide_eq_true_eq] at hd
    rw [hd.1]; decide
  | idleEntry =>
    refine occur_updates h fun hd => enterIdle_updates s 0 ?_
    simp only [State.idleEntryIsDue, Bool.and_eq_true, decide_eq_true_eq] at hd
    exact hd.1.1.1.2
  | identityReadComplete identity => exact occur_updates h fun _ => identityRead_updates s 0 identity
  | configWriteComplete => exact occur_updates h fun _ => configWritten_updates s 0
  | firstSampleTimeout => exact occur_updates h fun _ => failStart_updates s 0 1
  | sampleReadComplete raw => exact occur_updates h fun _ => sampleRead_updates s 0 raw
  | rateWriteComplete => exact occur_updates h fun hd => rateWritten_updates s 0 hd
  | powerDownWriteComplete => exact occur_updates h fun _ => poweredDown_updates s 0
  | stallTimeout =>
    refine occur_updates h fun hd => stall_updates s 0 ?_
    simp only [State.stallTimeoutIsDue, Bool.and_eq_true, decide_eq_true_eq] at hd
    exact hd.1
  | outputPeriod =>
    obtain rfl := Host.Outcome.next.inj h
    split
    · exact outputPeriod_updates s 0
    · exact .refl
  | micSample sample =>
    refine occur_updates h fun _ => ?_
    split
    · exact (micPassed_updates s 0).trans (micSample_updates _ 0 sample)
    · exact micPassed_updates s 0
  | conversionComplete code => exact occur_updates h fun _ => conversion_updates s 0 code
  | panelPowerUpDone => exact occur_updates h fun _ => panelsOn_updates s 0
  | panelPowerDownDone => exact occur_updates h fun _ => panelsOff_updates s 0
  | offHeadTimeout => exact occur_updates h fun _ => offHeadExpires_updates s 0
  | proximityEdge high =>
    obtain rfl := Host.Outcome.next.inj h
    split
    · exact Updates.after (proximityEdge_updates _ 0) (.mdc _ (.of_eq rfl rfl))
    · exact Update.alone (.mdc _ (.of_eq rfl rfl))
  | recordReceived bytes => exact occur_updates h fun _ => feed_updates s 0 bytes
  | recordLengthReject bytes => exact occur_updates h fun _ => feed_updates s 0 bytes
  | byteTimeout => exact occur_updates h fun _ => byteTimeout_updates s 0
  | commandBegin =>
    refine occur_updates h fun hd => Update.alone (.beginCommand ?_)
    simp only [State.commandBeginIsDue, Bool.and_eq_true, Option.isNone_iff_eq_none] at hd
    exact hd.1
  | recordSent => exact occur_updates h fun _ => Update.alone .recordSent
  | identify tag => exact execute_reply_updates (data := State.identity) h
  | statusRead tag => exact execute_reply_updates (data := State.statusData) h
  | statusReadClear tag => exact execute_updates h fun u => readClear_updates u 0 tag
  | timingSet tag f => exact execute_updates h fun u => stage_updates u 0 _ _ _ _ _ (timingCandidate_inRange f)
  | timingGet tag => exact execute_reply_updates (data := State.timingData) h
  | sync tag f => exact execute_updates h fun u => stage_updates u 0 _ _ _ _ _ (syncCandidate_inRange f)
  | strobeSet tag f => exact execute_updates h fun u => stage_updates u 0 _ _ _ _ _ (strobeCandidate_inRange f)
  | strobeGet tag => exact execute_reply_updates (data := State.strobeData) h
  | shiftSet tag f => exact execute_updates h fun u => stage_updates u 0 _ _ _ _ _ (shiftCandidate_inRange f)
  | shiftGet tag => exact execute_reply_updates (data := State.shiftData) h
  | shiftProbe tag ref target => exact execute_reply_updates (data := fun s => s.probeData ref target) h
  | holdSet tag hold => exact execute_updates h fun u => stage_updates u 0 _ _ _ _ _ (holdCandidate_inRange _)
  | holdTable tag => exact execute_reply_updates (data := State.holdData) h
  | laneSet tag f => exact execute_updates h fun u => setLane_updates u 0 tag f
  | laneGet tag => exact execute_reply_updates (data := State.laneData) h
  | modeRun tag target => exact execute_updates h fun u => mode_updates u 0 tag target
  | modeStandby tag => exact execute_updates h fun u => mode_updates u 0 tag 1
  | modeDoze tag => exact execute_updates h fun u => mode_updates u 0 tag 2
  | modeWake tag => exact execute_updates h fun u => mode_updates u 0 tag 3
  | modeAutodoze tag f => exact execute_updates h fun u => setAutodoze_updates u 0 tag f
  | modeGet tag => exact execute_reply_updates (data := fun s => s.mdc.getData s.plr.hold) h
  | wakesourceRead tag => exact execute_reply_updates (data := fun s => wakeRecordBytes s.mdc.wakeRecord) h
  | wakesourceClear tag =>
    exact execute_updates h fun u => Updates.after (replyTo_updates ..)
      (.mdc { u.mdc with wakeRecord := none } (.of_eq rfl rfl))
  | motionStart tag f =>
    refine execute_updates h fun u => ?_
    split
    · exact replyTo_updates ..
    · next hn =>
      refine beginStart_updates u 0 tag f ?_
      unfold motionStartRefusal at hn
      by_contra hoff
      simp only [ne_eq, hoff, not_false_eq_true, if_true] at hn
      split at hn <;> cases hn
  | motionStop tag =>
    refine execute_updates h fun u => Relation.ReflTransGen.trans (b := (_, 1)) ?_ (replyTo_updates ..)
    split
    · exact .refl
    · exact stopMotion_updates u 1
  | motionGet tag => exact execute_reply_updates (data := State.motionData) h
  | biasSet tag f => exact execute_updates h fun u => setBias_updates u 0 tag f
  | biasGet tag => exact execute_reply_updates (data := fun s => biasBytes s.mot.bias) h
  | calibrate tag f =>
    refine execute_updates h fun u => ?_
    split
    · exact replyTo_updates ..
    · next hn =>
      refine Update.alone (.deferCalibration _ ?_)
      unfold calibrateRefusal at hn
      by_contra hc
      rw [if_pos (Option.isSome_iff_ne_none.2 hc)] at hn
      cases hn
  | recentre tag f => exact execute_updates h fun u => recentre_updates u 0 tag f
  | wakefilterSet tag f => exact execute_updates h fun u => setFilter_updates u 0 tag f
  | wakefilterGet tag => exact execute_reply_updates (data := fun s => s.mot.filters.flatMap WakeFilter.bytes) h
  | audioSet tag f =>
    refine execute_updates h fun u => ?_
    unfold State.setAudio
    split
    · exact replyTo_updates ..
    · exact Updates.after (replyTo_updates ..) ((audSet_moves u.aud f).update 1)
  | audioPlayStart tag =>
    refine execute_updates h fun u => ?_
    split
    · exact replyTo_updates ..
    · exact Updates.after (replyTo_updates ..) ((playStart_moves u.aud).update 1)
  | audioPlayStop tag =>
    exact execute_updates h fun u => Updates.after (replyTo_updates ..) ((playStop_moves u.aud).update 1)
  | micStart tag =>
    refine execute_updates h fun u => ?_
    split
    · exact replyTo_updates ..
    · exact Updates.after (replyTo_updates ..) (.aud _ rfl rfl fun hs => ((audioSound_iff u).1 hs).1)
  | micStop tag =>
    exact execute_updates h fun u => Updates.after (replyTo_updates ..) ((micStop_moves u.aud).update 1)
  | audioGet tag => exact execute_reply_updates (data := State.audioData) h
  | monitorSet tag f => exact execute_updates h fun u => setMonitor_updates u 0 tag f
  | monitorStop tag => exact execute_updates h fun u => (stopMonitor_updates u 1).trans (replyTo_updates ..)
  | monitorGet tag => exact execute_reply_updates (data := State.monitorData) h
  | roundOneShot tag mode first last => exact execute_updates h fun u => round_updates u 0 tag mode first last
  | roundContinuous tag first last => exact execute_updates h fun u => round_updates u 0 tag 1 first last
  | allowanceSet tag allowance =>
    exact execute_updates h fun u => Updates.after (replyTo_updates ..) (.gov _ (allowance_moves u.gov _))
  | allowanceGet tag => exact execute_reply_updates (data := fun s => s.gov.allowanceData) h
  | limitsSet tag f =>
    refine execute_updates h fun u => ?_
    unfold State.setLimits
    dsimp only
    split
    · exact replyTo_updates ..
    · split
      · exact replyTo_updates ..
      · next hlt => exact Updates.after (replyTo_updates ..) (.gov _ (limited_moves u.gov f (Nat.lt_of_not_le hlt)))
  | limitsGet tag => exact execute_reply_updates (data := fun s => s.gov.limitBytes) h
  | sidebandSignalPresent =>
    obtain rfl := Host.Outcome.next.inj h
    exact Update.alone (.mdc _ (.of_eq rfl rfl))

/-- A frame wrap is a chain of updates before and after the wrap of the Frame Timebase, or is not due. -/
theorem exec_frameWrap {s t : State} (h : exec .frameWrap s = .next t) :
    t = s ∨ ∃ u, u.ftb = s.ftb ∧ Updates (s, 0) (u, 0) ∧
      Updates (u.withFtb (u.ftb.wrap (u.gov.state = .powerFail)), 0) (t, 0) := by
  obtain rfl := Host.Outcome.next.inj h
  split
  · exact .inr (wrapFrame_updates s 0)
  · exact .inl rfl

/-- A command that may reset the part does so, or is a chain of updates. -/
theorem exec_reset {c : Instr} {s t : State} (hr : resetsThePart c = true) (h : exec c s = .next t) :
    Updates (s, 0) (t, 0) ∨ ∃ u cause wake held, t = State.resetBlocks u cause wake held := by
  unfold exec at h
  cases c with
  | resetRelease =>
    obtain rfl := Host.Outcome.next.inj h
    split
    · exact .inr ⟨_, _, _, _, rfl⟩
    · exact .inl .refl
  | powerOnReset => exact .inr ⟨_, _, _, _, (Host.Outcome.next.inj h).symm⟩
  | supplyDipReset => exact .inr ⟨_, _, _, _, (Host.Outcome.next.inj h).symm⟩
  | sidebandLoss =>
    obtain rfl := Host.Outcome.next.inj h
    split
    · exact .inr ⟨_, _, _, _, rfl⟩
    · split
      · exact .inl .refl
      · exact .inl (Update.alone (.mdc _ (.of_eq rfl rfl)))
  | reset tag =>
    change execute _ _ s = _ at h
    unfold execute at h
    split at h
    · obtain rfl := Host.Outcome.next.inj h; exact .inl .refl
    · split at h
      · obtain rfl := Host.Outcome.next.inj h; exact .inr ⟨_, _, _, _, rfl⟩
      · obtain rfl := Host.Outcome.next.inj h; exact .inl (Update.alone (.count _ _))
  | _ => cases hr

/-- Every step keeps a property that every elementary update, the wrap of the Frame Timebase, a reset and the passing
of a microsecond keep. The property may speak of the replies that a command in execution owes. -/
theorem step_keeps {P : State × Nat → Prop} (update : ∀ a b, Update a b → P a → P b)
    (wrap : ∀ s, P (s, 0) → P (s.withFtb (s.ftb.wrap (s.gov.state = .powerFail)), 0))
    (reset : ∀ s cause wake held, P (State.resetBlocks s cause wake held, 0))
    (tick : ∀ s, P (s, 0) → P (s.tick, 0)) {s t : State} (hs : P (s, 0)) (h : step s = .next t) : P (t, 0) := by
  have run (c : Instr) (s t : State) (hs : P (s, 0)) (h : exec c s = .next t) : P (t, 0) := by
    by_cases hr : resetsThePart c = true
    · rcases exec_reset hr h with hu | ⟨u, cause, wake, held, rfl⟩
      · exact hu.keeps update hs
      · exact reset ..
    · by_cases hw : c = .frameWrap
      · subst hw
        rcases exec_frameWrap h with rfl | ⟨u, -, h1, h2⟩
        · exact hs
        · exact h2.keeps update (wrap u (h1.keeps update hs))
      · exact (exec_updates (by simpa using hr) hw h).keeps update hs
  unfold step at h
  split at h
  · next c rest _ => exact run c _ t (update _ _ (.pending rest) hs) h
  · unfold State.runOn at h
    split at h
    · next c _ => exact run c s t hs h
    · obtain rfl := Host.Outcome.next.inj h
      split
      · exact hs
      · exact tick s hs

end Sys2Proof.Machine
end

section
/-! The elementary updates by what they change of the blocks: of each update the invariants of one block see only
whether it is one of the few that reach the block. -/

namespace Sys2Proof.Machine

/-! ## Updates that are quiet -/

/-- What an update leaves that reaches neither the Frame Timebase nor the lane nor Slice Memory nor POWER_FAIL. -/
structure State.Quiet (s t : State) : Prop where
  ftb : t.ftb = s.ftb
  plr : t.plr = s.plr
  slm : t.slm = s.slm
  fail : t.gov.state = .powerFail ↔ s.gov.state = .powerFail
  hold : t.aud.powerFailHold = s.aud.powerFailHold
  gov : s.gov.Sound → t.gov.Sound
  aud : s.AudioSound → t.aud.Sound
  mot : s.mot.Sound → t.mot.Sound
  mon : s.mon.Sound → t.mon.Sound

/-- The Audio Unit's part of a sound audio state. -/
theorem audSound {s : State} (h : s.AudioSound) : s.aud.Sound := ((audioSound_iff s).1 h).1

theorem State.Quiet.trans {a b c : State} (h : a.Quiet b) (k : b.Quiet c) : a.Quiet c where
  ftb := k.ftb.trans h.ftb
  plr := k.plr.trans h.plr
  slm := k.slm.trans h.slm
  fail := k.fail.trans h.fail
  hold := k.hold.trans h.hold
  gov := k.gov ∘ h.gov
  aud ha := k.aud ((audioSound_iff b).2 ⟨h.aud ha, by rw [h.plr]; exact ((audioSound_iff a).1 ha).2⟩)
  mot := k.mot ∘ h.mot
  mon := k.mon ∘ h.mon

theorem quiet_smp (s : State) (x : Smp) : s.Quiet (s.withSmp x) :=
  ⟨rfl, rfl, rfl, .rfl, rfl, id, audSound, id, id⟩
theorem quiet_mot {s : State} {x : Mot} (h : s.mot.Sound → x.Sound) : s.Quiet (s.withMot x) :=
  ⟨rfl, rfl, rfl, .rfl, rfl, id, audSound, h, id⟩
theorem quiet_mon {s : State} {x : Mon} (h : s.mon.Sound → x.Sound) : s.Quiet (s.withMon x) :=
  ⟨rfl, rfl, rfl, .rfl, rfl, id, audSound, id, h⟩
theorem quiet_mdc (s : State) (x : Mdc) : s.Quiet (s.withMdc x) :=
  ⟨rfl, rfl, rfl, .rfl, rfl, id, audSound, id, id⟩
theorem quiet_aud {s : State} {x : Aud} (hh : x.powerFailHold = s.aud.powerFailHold)
    (h : s.AudioSound → x.Sound) : s.Quiet (s.withAud x) := ⟨rfl, rfl, rfl, .rfl, hh, id, h, id, id⟩
theorem State.Quiet.refl (s : State) : s.Quiet s := quiet_mdc s s.mdc

theorem Mot.Sound.withQueue {m : Mot} (h : m.Sound) {q : List MotionReport} (hl : q.length ≤ 4)
    (hq : q.all (fun r => 0 < r.samples.length && r.samples.length ≤ 8) = true) :
    ({ m with queue := q } : Mot).Sound := by
  obtain ⟨h1, h2, h3, h4, h5, h6, h7, h8, h9, h10, h11, -, -, h14⟩ := h
  exact ⟨h1, h2, h3, h4, h5, h6, h7, h8, h9, h10, h11, hl, hq, h14⟩

theorem Mot.Sound.queue {m : Mot} (h : m.Sound) : m.queue.length ≤ 4 ∧
    m.queue.all (fun r => 0 < r.samples.length && r.samples.length ≤ 8) = true := by
  obtain ⟨-, -, -, -, -, -, -, -, -, -, -, hl, hq, -⟩ := h
  exact ⟨hl, hq⟩

theorem Aud.Sound.withUplink {a : Aud} (h : a.Sound) {u : List MicBlock} (hu : u.length ≤ 6) :
    ({ a with uplink := u } : Aud).Sound := by
  obtain ⟨h1, h2, h3, h4, h5, -, h6⟩ := h
  exact ⟨h1, h2, h3, h4, h5, hu, h6⟩

theorem Aud.Sound.uplink {a : Aud} (h : a.Sound) : a.uplink.length ≤ 6 := by
  obtain ⟨-, -, -, -, -, hu, -⟩ := h
  exact hu

/-- The arbiter leaves every source as it was or takes its first record. -/
theorem arbitrate_quiet (s : State) : s.Quiet s.arbitrate := by
  unfold State.arbitrate
  split
  · exact .refl s
  · split
    · exact quiet_smp ..
    · split
      · exact quiet_smp ..
      · split
        · next r rs hq =>
          refine (quiet_mot (x := { s.mot with queue := rs }) fun hm => ?_).trans (quiet_smp _ _)
          obtain ⟨hl, ha⟩ := hm.queue
          rw [hq] at hl ha
          exact hm.withQueue (Nat.le_of_succ_le hl) (Bool.and_eq_true_iff.1 ha).2
        · split
          · next b bs hu =>
            refine (quiet_aud (x := { s.aud with uplink := bs }) rfl fun ha => ?_).trans (quiet_smp _ _)
            have hl := (audSound ha).uplink
            rw [hu] at hl
            exact (audSound ha).withUplink (Nat.le_of_succ_le hl)
          · split
            · exact quiet_smp ..
            · split
              · exact quiet_smp ..
              · exact .refl s

theorem notify_quiet (s : State) (x : Notice) : s.Quiet (s.notify x) := by
  unfold State.notify
  split
  · exact (quiet_smp ..).trans (arbitrate_quiet _)
  · exact quiet_smp ..

theorem makeReply_quiet (s : State) (r : Reply) : s.Quiet (s.makeReply r) := by rw [makeReply_eq]; exact quiet_smp ..

/-- A report offered to its queue leaves it within its 4 places (R69). -/
theorem offerMotion_quiet {s : State} {r : MotionReport} {x : Mot} (hx : s.mot.Moves x)
    (h : s.mot.Sound → 0 < r.samples.length ∧ r.samples.length ≤ 8) : s.Quiet ((s.withMot x).offerMotion r) := by
  unfold State.offerMotion
  refine (quiet_mot fun hm => ?_).trans (arbitrate_quiet _)
  obtain ⟨hr, hr'⟩ := h hm
  obtain ⟨hl, ha⟩ := (hx.sound hm).queue
  refine (hx.sound hm).withQueue ?_ ?_
  · by_cases hq : x.queue.length < 4
    · simp [hq]
    · rw [withMot_mot, if_neg hq]
      split <;> simp_all
  · by_cases hq : x.queue.length < 4
    · simp [hq, ha, hr, hr']
    · rw [withMot_mot, if_neg hq]
      split <;> simp_all

/-- A block offered to the uplink queue leaves it within its 6 places (R110). -/
theorem offerMic_quiet (s : State) (b : MicBlock) : s.Quiet (s.offerMic b) := by
  unfold State.offerMic
  refine .trans ?_ (arbitrate_quiet _)
  refine quiet_aud rfl fun ha => (audSound ha).withUplink ?_
  have hl := (audSound ha).uplink
  split
  · simp; omega
  · split <;> simp_all

theorem answerAtReception_quiet (s : State) (code tag : Byte) (st : Status) :
    s.Quiet (s.answerAtReception code tag st) := by
  unfold State.answerAtReception
  split
  · exact quiet_smp ..
  · exact (quiet_smp ..).trans (arbitrate_quiet _)

theorem offerCommand_quiet (s : State) (code tag : Byte) (c : Instr) : s.Quiet (s.offerCommand code tag c) := by
  unfold State.offerCommand
  split
  · exact quiet_smp ..
  · split
    · exact quiet_smp ..
    · exact answerAtReception_quiet ..

theorem beginCommand_quiet (s : State) : s.Quiet s.beginCommand := by
  unfold State.beginCommand
  split
  · exact .refl s
  · exact quiet_smp ..

theorem recordSent_quiet (s : State) : s.Quiet s.recordSent := (quiet_smp ..).trans (arbitrate_quiet _)

/-- A claim changes the port alone. -/
theorem claim_some {s t : State} {c : Instr} (h : s.claim c = some t) : t = s.claiming c := by
  unfold State.claim at h
  unfold State.claiming Smp.claimed
  split at h
  · next he => rw [if_pos he]; exact (Option.some.inj h).symm
  · next he =>
    split at h
    · cases h
    · rw [if_neg he]; exact (Option.some.inj h).symm

/-! ## The updates of the blocks -/

/-- An elementary update as the blocks see it. -/
inductive BlockUpdate : State → State → Prop
  | quiet {s t} : s.Quiet t → BlockUpdate s t
  | ftb {s} (x : Ftb) : s.ftb.Quiet x → BlockUpdate s (s.withFtb x)
  | stage {s} (t : TimingSet) : t.consistent = true → (s.ftb.staged.InRange → t.InRange) →
      BlockUpdate s (s.withFtb { s.ftb with staged := t })
  | strobe {s} (e : Eye) (on : Bool) : (on = true → s.ftb.cut = false) → BlockUpdate s (s.setStrobe e on)
  | plr {s} (x : Plr) : s.plr.Moves x → BlockUpdate s (s.withPlr x)
  | slm {s} (x : Slm) : s.slm.Moves s.ftb.tbc x → BlockUpdate s (s.withSlm x)
  | fill {s i m} (e : Eye) (k : Nat) (tag ref : W16) : s.plr.lane = .active → s.plr.burst = .none → k < 16 →
      s.slm.allocate e k tag ref = some (i, m) →
      BlockUpdate s ((s.withSlm m).withPlr { s.plr with burst := .slice i })
  | complete {s i} (payload : List Byte) : s.plr.burst = .slice i →
      BlockUpdate s ((s.withSlm (s.slm.complete i s.ftb.tbc payload).1).withPlr { s.plr with burst := .none })
  | breakFill {s i} : s.plr.burst = .slice i →
      BlockUpdate s ((s.withSlm (s.slm.breakFill i)).withPlr { s.plr with burst := .none })
  | enterPowerFail {s} (g : Gov) (a : Aud) : g.state = .powerFail → (s.gov.Sound → g.Sound) →
      a.powerFailHold = true → (s.aud.Sound → a.Sound) →
      BlockUpdate s (((s.withGov g).withFtb s.ftb.cutStrobe).withAud a)
  | leavePowerFail {s} (g : Gov) (a : Aud) : g.state ≠ .powerFail → (s.gov.Sound → g.Sound) →
      a.powerFailHold = false → (s.aud.Sound → a.Sound) → BlockUpdate s ((s.withGov g).withAud a)

theorem Update.block {a b : State × Nat} (h : Update a b) : BlockUpdate a.1 b.1 := by
  cases h with
  | pending q => exact .quiet ⟨rfl, rfl, rfl, .rfl, rfl, id, audSound, id, id⟩
  | ftb x hx => exact .ftb x hx
  | stage t hc hr => exact .stage t hc hr
  | strobe e on ho => exact .strobe e on ho
  | plr x hx => exact .plr x hx
  | slm x hx => exact .slm x hx
  | fill e k tag ref hl hb hk ha => exact .fill e k tag ref hl hb hk ha
  | complete p hb => exact .complete p hb
  | breakFill hb => exact .breakFill hb
  | scn x => exact .quiet ⟨rfl, rfl, rfl, .rfl, rfl, id, audSound, id, id⟩
  | mot x hx => exact .quiet (quiet_mot hx.sound)
  | aud x hh hu hs => exact .quiet (quiet_aud hh hs)
  | mon x hx => exact .quiet (quiet_mon hx.sound)
  | gov x hx => exact .quiet ⟨rfl, rfl, rfl, hx.fail, rfl, hx.sound, audSound, id, id⟩
  | enterPowerFail g x hg hs hh hu ha => exact .enterPowerFail g x hg hs hh ha
  | leavePowerFail g x hg hs hh hu ha => exact .leavePowerFail g x hg hs hh ha
  | mdc x hx => exact .quiet (quiet_mdc ..)
  | count k c => exact .quiet (quiet_smp ..)
  | rx bytes idle => exact .quiet (quiet_smp ..)
  | subtraction => exact .quiet (quiet_smp ..)
  | recordSent => exact .quiet (recordSent_quiet _)
  | notify x => exact .quiet (notify_quiet ..)
  | offerMotion x r hx hr => exact .quiet (offerMotion_quiet hx hr)
  | offerMic x => exact .quiet (offerMic_quiet ..)
  | offerFrame r => exact .quiet ((quiet_smp ..).trans (arbitrate_quiet _))
  | offerMonitor r => exact .quiet ((quiet_smp ..).trans (arbitrate_quiet _))
  | answerAtReception code tag st => exact .quiet (answerAtReception_quiet ..)
  | offerCommand code tag c => exact .quiet (offerCommand_quiet ..)
  | beginCommand hi => exact .quiet (beginCommand_quiet _)
  | claim c hc => rw [claim_some hc]; exact .quiet (quiet_smp ..)
  | reply r => exact .quiet (makeReply_quiet ..)
  | deferMode x h1 h2 h3 => exact .quiet (quiet_mdc ..)
  | answerMode x r h1 h2 => exact .quiet ((quiet_mdc ..).trans (makeReply_quiet ..))
  | deferStart x h1 h2 h3 h4 hs h6 => exact .quiet (quiet_mot hs)
  | answerStart x r h1 h2 h3 h4 hs h6 => exact .quiet ((quiet_mot hs).trans (makeReply_quiet ..))
  | deferCalibration c hc => exact .quiet (quiet_mot id)
  | @answerCalibration s _ b r hc hs =>
    exact .quiet ((quiet_mot (x := { s.mot with cal := none, bias := b }) hs).trans (makeReply_quiet ..))
  | deferRound x h1 h2 hs h4 => exact .quiet (quiet_mon hs)
  | answerRound x r h1 h2 hs => exact .quiet ((quiet_mon hs).trans (makeReply_quiet ..))

/-- Every step keeps a property that the updates of the blocks, a wrap, a reset and the passing of a microsecond
keep. -/
theorem step_keeps_block {P : State → Prop} (update : ∀ s t, BlockUpdate s t → P s → P t)
    (wrap : ∀ s, P s → P (s.withFtb (s.ftb.wrap (s.gov.state = .powerFail))))
    (reset : ∀ s cause wake held, P (State.resetBlocks s cause wake held))
    (tick : ∀ s, P s → P s.tick) {s t : State} (hs : P s) (h : step s = .next t) : P t :=
  step_keeps (P := fun a => P a.1) (fun _ _ u => update _ _ u.block) wrap reset tick hs h

end Sys2Proof.Machine
end

section
/-! The invariants of the blocks are kept by every step (O8 to O14), and the live set changes at wraps and resets only
(O18). -/

namespace Sys2Proof.Machine

/-! ## Frame Timebase and power fail -/

/-- The set staged by an update of the blocks is consistent and in range, and nothing else of the frame changes. -/
theorem BlockUpdate.ftb_keeps {s t : State} (h : BlockUpdate s t) :
    t.ftb.tbc = s.ftb.tbc ∧ t.ftb.fc = s.ftb.fc ∧ t.ftb.wrapDue = s.ftb.wrapDue ∧ t.ftb.fs = s.ftb.fs ∧
      t.ftb.live = s.ftb.live ∧ (t.ftb.staged = s.ftb.staged ∨
        (t.ftb.staged.consistent = true ∧ (s.ftb.staged.InRange → t.ftb.staged.InRange))) := by
  cases h with
  | quiet hq => rw [hq.ftb]; exact ⟨rfl, rfl, rfl, rfl, rfl, .inl rfl⟩
  | ftb x hx => exact ⟨hx.tbc, hx.fc, hx.wrapDue, hx.fs, hx.live, .inl hx.staged⟩
  | stage t hc hr => exact ⟨rfl, rfl, rfl, rfl, rfl, .inr ⟨hc, hr⟩⟩
  | _ => exact ⟨rfl, rfl, rfl, rfl, rfl, .inl rfl⟩

theorem BlockUpdate.frameSound {s t : State} (h : BlockUpdate s t) (hs : s.FrameSound) : t.FrameSound := by
  obtain ⟨hlc, hsc, hlr, hsr, hfc, hw⟩ := hs
  obtain ⟨-, efc, ew, -, el, hstaged⟩ := h.ftb_keeps
  have staged : t.ftb.staged.consistent = true ∧ t.ftb.staged.InRange := by
    rcases hstaged with he | ⟨hc, hr⟩
    · rw [he]; exact ⟨hsc, hsr⟩
    · exact ⟨hc, hr hsr⟩
  rw [State.FrameSound, efc, ew, el]
  exact ⟨hlc, staged.1, hlr, staged.2, hfc, hw⟩

/-- At a wrap the staged set becomes the live one, and FC is 0. -/
theorem wrap_fields (f : Ftb) (powerFail : Bool) :
    (f.wrap powerFail).tbc = f.tbc ∧ (f.wrap powerFail).fc = 0 ∧ (f.wrap powerFail).wrapDue = false ∧
      (f.wrap powerFail).live = f.staged ∧ (f.wrap powerFail).staged = f.staged ∧
      (f.wrap powerFail).cut = (f.cut && powerFail) ∧ (f.wrap powerFail).strobe = f.strobe := by
  unfold Ftb.wrap
  dsimp only
  split <;> exact ⟨rfl, rfl, rfl, rfl, rfl, rfl, rfl⟩

/-- A microsecond advances FC below P, or makes a wrap due after P − 1. -/
theorem tick_frameSound {s : State} (hs : s.FrameSound) : s.tick.FrameSound := by
  unfold State.tick
  split
  · exact hs
  · obtain ⟨hlc, hsc, hlr, hsr, hfc, hw⟩ := hs
    simp only [State.FrameSound, Ftb.tick]
    split
    · next hlt => exact ⟨hlc, hsc, hlr, hsr, hlt, fun hd => by rw [hw hd] at hlt; exact absurd hlt (Nat.lt_irrefl _)⟩
    · next hge => exact ⟨hlc, hsc, hlr, hsr, hfc, fun _ => Nat.le_antisymm hfc (Nat.le_of_not_lt hge)⟩

theorem BlockUpdate.powerFailSound {s t : State} (h : BlockUpdate s t) (hs : s.PowerFailSound) : t.PowerFailSound := by
  obtain ⟨hcut, hdark, hheld⟩ := hs
  cases h with
  | quiet hq => rw [State.PowerFailSound, hq.ftb, hq.hold, hq.fail]; exact ⟨hcut, hdark, hheld⟩
  | ftb x hx => rw [State.PowerFailSound, withFtb_ftb, hx.cut, hx.strobe]; exact ⟨hcut, hdark, hheld⟩
  | strobe e on ho =>
    refine ⟨hcut, fun hc => ?_, hheld⟩
    have off : on = false := by
      cases on
      · rfl
      · exact absurd (hc.symm.trans (ho rfl)) (by decide)
    subst off
    have := hdark hc
    cases e <;> simp_all [State.setStrobe, Eyes.put]
  | enterPowerFail g a hg _ ha =>
    exact ⟨fun _ => rfl, fun _ => ⟨rfl, rfl⟩, fun _ => hg, fun _ => ha⟩
  | leavePowerFail g a hg _ ha =>
    exact ⟨fun hf => absurd hf hg, hdark, fun hf => absurd (hf.symm.trans ha) (by decide), fun hf => absurd hf hg⟩
  | _ => exact ⟨hcut, hdark, hheld⟩

theorem wrap_powerFailSound {s : State} (hs : s.PowerFailSound) :
    (s.withFtb (s.ftb.wrap (s.gov.state = .powerFail))).PowerFailSound := by
  obtain ⟨hcut, hdark, hheld⟩ := hs
  obtain ⟨-, -, -, -, -, ec, es⟩ := wrap_fields s.ftb (s.gov.state = .powerFail)
  rw [State.PowerFailSound, withFtb_ftb, ec, es]
  refine ⟨fun hf => ?_, fun hc => hdark (Bool.and_eq_true_iff.1 hc).1, hheld⟩
  rw [withFtb_gov] at hf
  rw [hcut hf, hf]; rfl

theorem ftb_tick_cut (f : Ftb) : f.tick.cut = f.cut ∧ f.tick.strobe = f.strobe := by
  unfold Ftb.tick; split <;> exact ⟨rfl, rfl⟩

theorem aud_tick_hold (a : Aud) : a.tick.powerFailHold = a.powerFailHold := by unfold Aud.tick; split <;> rfl

theorem tick_powerFailSound {s : State} (hs : s.PowerFailSound) : s.tick.PowerFailSound := by
  unfold State.tick
  split
  · rw [State.PowerFailSound, withAud_aud, aud_tick_hold]; exact hs
  · simp only [State.PowerFailSound, ftb_tick_cut, aud_tick_hold]; exact hs

/-! ## Motion Unit, Audio Unit, Supply Monitor and Power Governor -/

theorem BlockUpdate.motionSound {s t : State} (h : BlockUpdate s t) (hs : s.MotionSound) : t.MotionSound := by
  cases h with
  | quiet hq => exact hq.mot hs
  | _ => exact hs

theorem BlockUpdate.audioSound {s t : State} (h : BlockUpdate s t) (hs : s.AudioSound) : t.AudioSound := by
  obtain ⟨ha, hb⟩ := (audioSound_iff s).1 hs
  refine (audioSound_iff t).2 ?_
  cases h with
  | quiet hq => exact ⟨hq.aud hs, by rw [hq.plr]; exact hb⟩
  | plr x hx =>
    refine ⟨ha, ?_⟩
    rcases hx.burst with he | ⟨-, he⟩
    · rw [withPlr_plr, he]; exact hb
    · exact he
  | enterPowerFail g a _ _ _ hk => exact ⟨hk ha, hb⟩
  | leavePowerFail g a _ _ _ hk => exact ⟨hk ha, hb⟩
  | fill => exact ⟨ha, rfl⟩
  | complete => exact ⟨ha, rfl⟩
  | breakFill => exact ⟨ha, rfl⟩
  | _ => exact ⟨ha, hb⟩

theorem BlockUpdate.monitorSound {s t : State} (h : BlockUpdate s t) (hs : s.MonitorSound) : t.MonitorSound := by
  cases h with
  | quiet hq => exact hq.mon hs
  | _ => exact hs

theorem BlockUpdate.governorSound {s t : State} (h : BlockUpdate s t) (hs : s.GovernorSound) : t.GovernorSound := by
  cases h with
  | quiet hq => exact hq.gov hs
  | enterPowerFail g a _ hk => exact hk hs
  | leavePowerFail g a _ hk => exact hk hs
  | _ => exact hs

theorem tick_motionSound {s : State} (hs : s.MotionSound) : s.tick.MotionSound := by
  unfold State.tick; split <;> exact hs

theorem tick_governorSound {s : State} (hs : s.GovernorSound) : s.tick.GovernorSound := by
  unfold State.tick; split <;> exact hs

theorem aud_tick_sound {a : Aud} (h : a.Sound) : a.tick.Sound := by
  unfold Aud.Sound Aud.fill at h ⊢
  unfold Aud.tick
  split <;> exact h

theorem tick_audioSound {s : State} (hs : s.AudioSound) : s.tick.AudioSound := by
  obtain ⟨ha, hb⟩ := (audioSound_iff s).1 hs
  unfold State.tick
  split <;> exact (audioSound_iff _).2 ⟨aud_tick_sound ha, hb⟩

/-- A conversion in progress comes nearer its end; its inputs stay. -/
theorem tick_monitorSound {s : State} (hs : s.MonitorSound) : s.tick.MonitorSound := by
  unfold State.tick
  split
  · exact hs
  · obtain ⟨h1, h2, h3, h4, h5, h6, h7, h8⟩ := hs
    refine ⟨h1, h2, h3, ?_, h5, h6, h7, h8⟩
    unfold Mon.tick
    cases hr : s.mon.round with
    | none => rfl
    | some r =>
      simp only [hr, Option.all_some, Round.sound, Bool.and_eq_true, decide_eq_true_eq] at h4
      simp only [Option.map_some, Option.all_some, Round.sound, Bool.and_eq_true, decide_eq_true_eq]
      omega

end Sys2Proof.Machine

section Settled
open Sys2Proof Sys2Proof.Machine

/-- Settles O8: `BlockUpdate.frameSound` for the updates, and at a wrap the staged set, which is consistent. -/
theorem stepKeepsTheFrameSound : Obligations.StepKeepsTheFrameSound := by
  intro s t hs h
  refine step_keeps_block (P := State.FrameSound) (fun _ _ u => u.frameSound) (fun s hs => ?_)
    (fun _ _ _ _ => show State.reset.FrameSound by decide) (fun _ => tick_frameSound) hs h
  obtain ⟨-, hsc, -, hsr, -⟩ := hs
  obtain ⟨-, hfc, hw, hl, hst, -⟩ := wrap_fields s.ftb (s.gov.state = .powerFail)
  rw [State.FrameSound, withFtb_ftb, hfc, hw, hl, hst]
  exact ⟨hsc, hsc, hsr, hsr, Nat.lt_of_lt_of_le (by decide) hsr.1, by simp⟩

/-- Settles O9: the cut and the hold come and go with POWER_FAIL, and no strobe goes on under the cut. -/
theorem stepKeepsTheStrobesDarkInPowerFail : Obligations.StepKeepsTheStrobesDarkInPowerFail := fun _ _ hs h =>
  step_keeps_block (P := State.PowerFailSound) (fun _ _ u => u.powerFailSound) (fun _ => wrap_powerFailSound)
    (fun _ _ _ _ => show State.reset.PowerFailSound by decide)
    (fun _ => tick_powerFailSound) hs h

/-- Settles O12: every update of the Motion Unit keeps `Mot.Sound`. -/
theorem stepKeepsTheMotionUnitSound : Obligations.StepKeepsTheMotionUnitSound := fun _ _ hs h =>
  step_keeps_block (P := State.MotionSound) (fun _ _ u => u.motionSound) (fun _ hs => hs)
    (fun _ _ _ _ => show State.reset.MotionSound by decide) (fun _ => tick_motionSound) hs h

/-- Settles O13: every update of the Audio Unit keeps `Aud.Sound`, and an audio burst begins with a sound count. -/
theorem stepKeepsTheAudioUnitSound : Obligations.StepKeepsTheAudioUnitSound := fun _ _ hs h =>
  step_keeps_block (P := State.AudioSound) (fun _ _ u => u.audioSound) (fun _ hs => hs)
    (fun _ _ _ _ => show State.reset.AudioSound by decide) (fun _ => tick_audioSound) hs h

/-- Settles O14: every update of the Supply Monitor keeps `Mon.Sound`, and every update of the Power Governor
`Gov.Sound`. -/
theorem stepKeepsMonitorAndGovernorSound : Obligations.StepKeepsMonitorAndGovernorSound :=
  ⟨fun _ _ hs h => step_keeps_block (P := State.MonitorSound) (fun _ _ u => u.monitorSound) (fun _ hs => hs)
      (fun _ _ _ _ => show State.reset.MonitorSound by decide) (fun _ => tick_monitorSound) hs h,
    fun _ _ hs h => step_keeps_block (P := State.GovernorSound) (fun _ _ u => u.governorSound) (fun _ hs => hs)
      (fun _ _ _ _ => show State.reset.GovernorSound by decide) (fun _ => tick_governorSound) hs h⟩

/-- Settles O18: the updates leave the live set; a frame wrap commits the staged one. -/
theorem theLiveSetChangesOnlyAtWraps : Obligations.TheLiveSetChangesOnlyAtWraps := by
  intro c s t hr h
  have keeps {a b : State × Nat} (h : Updates a b) : b.1.ftb.tbc = a.1.ftb.tbc ∧ b.1.ftb.live = a.1.ftb.live ∧
      b.1.ftb.fs = a.1.ftb.fs ∧ b.1.ftb.fc = a.1.ftb.fc := by
    refine h.keeps (Q := fun b => b.1.ftb.tbc = a.1.ftb.tbc ∧ b.1.ftb.live = a.1.ftb.live ∧
      b.1.ftb.fs = a.1.ftb.fs ∧ b.1.ftb.fc = a.1.ftb.fc) (fun b c u hb => ?_) ⟨rfl, rfl, rfl, rfl⟩
    obtain ⟨htbc, hfc, -, hfs, hlive, -⟩ := u.block.ftb_keeps
    rw [htbc, hfc, hfs, hlive]; exact hb
  by_cases hw : c = .frameWrap
  · subst hw
    rcases exec_frameWrap h with rfl | ⟨u, hu, -, h2⟩
    · exact ⟨rfl, fun hn => absurd rfl hn, .inl rfl⟩
    · obtain ⟨htbc, hlive, -, -⟩ := keeps h2
      obtain ⟨wtbc, -, -, wlive, -⟩ := wrap_fields u.ftb (u.gov.state = .powerFail)
      refine ⟨htbc.trans (wtbc.trans (by rw [hu])), fun hn => absurd rfl hn, .inr ?_⟩
      exact hlive.trans (wlive.trans (by rw [hu]))
  · obtain ⟨htbc, hlive, hfs, hfc⟩ := keeps (exec_updates hr hw h)
    exact ⟨htbc, fun _ => ⟨hlive, hfs, hfc⟩, .inl hlive⟩

end Settled
end

section
/-! Slice Memory is sound after every step (O10), and the ages of its RETAINED cells are true (O11). -/

namespace Sys2Proof.Machine

/-! ## Counting cells -/

/-- At most one element of a list passes a test exactly where any two that do are one. -/
theorem countP_le_one_iff {α : Type} {p : α → Bool} {l : List α} : l.countP p ≤ 1 ↔
    ∀ (i j : Nat) (x y : α), l[i]? = some x → l[j]? = some y → p x = true → p y = true → i = j := by
  induction l with
  | nil => simp
  | cons a l ih =>
    by_cases ha : p a = true
    · have none : (a :: l).countP p ≤ 1 ↔ ∀ x ∈ l, ¬ p x = true := by
        rw [List.countP_cons_of_pos ha, ← List.countP_eq_zero]; omega
      rw [none]
      constructor
      · intro h i j x y hx hy px py
        match i, j with
        | 0, 0 => rfl
        | 0, j + 1 => exact absurd py (h y (List.mem_of_getElem? (l := l) (i := j) hy))
        | i + 1, _ => exact absurd px (h x (List.mem_of_getElem? (l := l) (i := i) hx))
      · intro h x hx px
        obtain ⟨i, hi⟩ := List.mem_iff_getElem?.1 hx
        exact absurd (h 0 (i + 1) a x rfl (by simpa using hi) ha px) (by omega)
    · rw [List.countP_cons_of_neg ha, ih]
      constructor
      · intro h i j x y hx hy px py
        match i, j with
        | 0, _ => rw [← Option.some.inj hx] at px; exact absurd px ha
        | _, 0 => rw [← Option.some.inj hy] at py; exact absurd py ha
        | i + 1, j + 1 => exact congrArg Nat.succ (h i j x y hx hy px py)
      · intro h i j x y hx hy px py
        exact Nat.succ.inj (h (i + 1) (j + 1) x y (by simpa using hx) (by simpa using hy) px py)

/-! ## The soundness of Slice Memory, cell by cell -/

/-- `State.SlicesSound` of the table and the receiver, said of the slices in the cells. -/
structure SlicesIn (m : Slm) (p : Plr) : Prop where
  length : m.cells.length = 40
  ready : ∀ i j x y, m.slice i = some x → m.slice j = some y → x.phase = .ready → y.phase = .ready →
    x.eye = y.eye → x.index = y.index → i = j
  filling : ∀ i < 40, (∃ x, m.slice i = some x ∧ x.phase = .filling) ↔ p.burst = .slice i
  active : p.burst.isSlice = true → p.lane = .active
  index : ∀ i x, m.slice i = some x → x.index < 16

theorem slice_any_iff {m : Slm} {i : Nat} {q : Slice → Bool} :
    (m.slice i).any q = true ↔ ∃ x, m.slice i = some x ∧ q x = true := by
  cases m.slice i <;> simp

theorem all_cells_iff {m : Slm} {q : Slice → Bool} :
    m.cells.all (fun c => c.all q) = true ↔ ∀ i x, m.slice i = some x → q x = true := by
  constructor
  · intro h i x hx
    have := List.all_eq_true.1 h (some x) (List.mem_of_getElem? (slice_eq_some_iff.1 hx))
    simpa using this
  · intro h
    refine List.all_eq_true.2 fun c hc => ?_
    obtain ⟨i, hi⟩ := List.mem_iff_getElem?.1 hc
    cases c with
    | none => rfl
    | some x => exact h i x (slice_eq_some_iff.2 hi)

/-- At most one cell is READY for an eye and index. -/
theorem countCells_ready_iff {m : Slm} {e : Eye} {k : Nat} :
    m.countCells (fun x => x.phase = .ready && x.eye = e && x.index = k) ≤ 1 ↔
      ∀ i j x y, m.slice i = some x → m.slice j = some y → (x.phase = .ready ∧ x.eye = e ∧ x.index = k) →
        (y.phase = .ready ∧ y.eye = e ∧ y.index = k) → i = j := by
  rw [Slm.countCells, countP_le_one_iff]
  constructor
  · intro h i j x y hx hy px py
    exact h i j (some x) (some y) (slice_eq_some_iff.1 hx) (slice_eq_some_iff.1 hy) (by simpa [and_assoc] using px)
      (by simpa [and_assoc] using py)
  · intro h i j c d hc hd pc pd
    match c, d with
    | none, _ => cases pc
    | _, none => cases pd
    | some x, some y =>
      exact h i j x y (slice_eq_some_iff.2 hc) (slice_eq_some_iff.2 hd) (by simpa [and_assoc] using pc)
        (by simpa [and_assoc] using pd)

theorem slicesSound_iff (s : State) : s.SlicesSound ↔ SlicesIn s.slm s.plr := by
  constructor
  · rintro ⟨hl, hr, hf, ha, hi⟩
    have index : ∀ i x, s.slm.slice i = some x → x.index < 16 := fun i x hx => by
      simpa using all_cells_iff.1 hi i x hx
    refine ⟨hl, fun i j x y hx hy px py he hk => ?_, fun i hi => ?_, ha, index⟩
    · have := hr x.eye (by cases x.eye <;> simp) x.index (List.mem_range.2 (index i x hx))
      exact countCells_ready_iff.1 this i j x y hx hy ⟨px, rfl, rfl⟩ ⟨py, he.symm, hk.symm⟩
    · rw [← hf i (List.mem_range.2 hi), slice_any_iff]; simp
  · intro h
    refine ⟨h.length, fun e _ k _ => countCells_ready_iff.2 ?_, fun i hi => ?_, h.active, all_cells_iff.2 ?_⟩
    · rintro i j x y hx hy ⟨px, ex, kx⟩ ⟨py, ey, ky⟩
      exact h.ready i j x y hx hy px py (ex.trans ey.symm) (kx.trans ky.symm)
    · rw [← h.filling i (List.mem_range.1 hi), slice_any_iff]; simp
    · exact fun i x hx => decide_eq_true (h.index i x hx)

/-! ## What a completion does -/

/-- A completion makes the cell READY; of the others it touches at most the older READY one, which is superseded. -/
theorem complete_some {m : Slm} {i : Nat} {x : Slice} (tbc : W32) (payload : List Byte) (h : m.slice i = some x) :
    ((m.complete i tbc payload).1.cells.length = m.cells.length) ∧
      (m.complete i tbc payload).1.slice i =
        some { x with phase := .ready, arrival := some tbc, content := payload } ∧
      ∀ j, j ≠ i → (m.complete i tbc payload).1.slice j =
        if m.readyCell x.eye x.index = some j then (m.slice j).bind Slice.supersede else m.slice j := by
  have hi := lt_length_of_slice h
  unfold Slm.complete
  simp only [h]
  cases hr : m.readyCell x.eye x.index with
  | none =>
    refine ⟨length_setCell .., slice_setCell_same _ hi, fun j hj => ?_⟩
    rw [slice_setCell_other _ hj, if_neg (by simp)]
  | some r =>
    refine ⟨by simp [length_setCell], slice_setCell_same _ (by rwa [length_setCell]), fun j hj => ?_⟩
    rw [slice_setCell_other _ hj]
    by_cases hjr : r = j
    · subst hjr
      obtain ⟨y, hy, -⟩ := readyCell_some hr
      rw [if_pos rfl, slice_setCell_same _ (lt_length_of_slice hy)]
    · rw [slice_setCell_other _ (Ne.symm hjr), if_neg (by simpa using hjr)]

/-- A superseded slice is DRAINING, with its eye and index. -/
theorem supersede_some {x y : Slice} (h : x.supersede = some y) :
    y.phase = .draining ∧ y.eye = x.eye ∧ y.index = x.index := by
  unfold Slice.supersede at h
  split at h
  · cases h; exact ⟨rfl, rfl, rfl⟩
  · cases h

/-- A slice found in another cell after a completion was there before; READY or RETAINED it was there as it is, and
was not READY for the eye and index completed. -/
theorem complete_other {m : Slm} {i j : Nat} {x y : Slice} {tbc : W32} {payload : List Byte} (h : m.slice i = some x)
    (hj : j ≠ i) (hy : (m.complete i tbc payload).1.slice j = some y) :
    (y.phase = .draining ∨ (m.slice j = some y ∧ m.readyCell x.eye x.index ≠ some j)) ∧
      ∃ z, m.slice j = some z ∧ y.eye = z.eye ∧ y.index = z.index := by
  obtain ⟨-, -, other⟩ := complete_some tbc payload h
  rw [other j hj] at hy
  split at hy
  · obtain ⟨z, hz, hs⟩ := Option.bind_eq_some_iff.1 hy
    obtain ⟨hd, he, hk⟩ := supersede_some hs
    exact ⟨.inl hd, z, hz, he, hk⟩
  · next hn => exact ⟨.inr ⟨hy, hn⟩, y, hy, rfl, rfl⟩

/-! ## Every update keeps the slices sound -/

theorem SlicesIn.plr {m : Slm} {p x : Plr} (h : SlicesIn m p) (hx : p.Moves x) : SlicesIn m x := by
  by_cases hb : p.burst.isSlice = true
  · obtain ⟨hl, he⟩ := hx.slice (h.active hb) hb
    exact ⟨h.length, h.ready, by rw [he]; exact h.filling, fun _ => hl, h.index⟩
  · have none : x.burst.isSlice = false := by
      rcases hx.burst with he | ⟨he, -⟩
      · rw [he]; simpa using hb
      · exact he
    refine ⟨h.length, h.ready, fun i hi => ?_, fun hs => absurd hs (by simp [none]), h.index⟩
    rw [h.filling i hi]
    constructor
    · intro hp; rw [hp] at hb; exact absurd rfl hb
    · intro hp; rw [hp] at none; cases none

theorem SlicesIn.slm {m x : Slm} {p : Plr} {tbc : W32} (h : SlicesIn m p) (hx : m.Moves tbc x) : SlicesIn x p := by
  refine ⟨hx.length.trans h.length, fun i j y z hy hz py pz he hk => ?_, fun i hi => ?_, h.active, fun i y hy => ?_⟩
  · obtain ⟨a, ha, ea, ka, -, ra, -⟩ := (hx.cell i).came y hy
    obtain ⟨b, hb, eb, kb, -, rb, -⟩ := (hx.cell j).came z hz
    exact h.ready i j a b ha hb (ra py) (rb pz) (ea.symm.trans (he.trans eb)) (ka.symm.trans (hk.trans kb))
  · rw [← h.filling i hi]
    constructor
    · rintro ⟨y, hy, py⟩
      obtain ⟨a, ha, -, -, fa, -⟩ := (hx.cell i).came y hy
      exact ⟨a, ha, fa py⟩
    · rintro ⟨a, ha, pa⟩
      exact (hx.cell i).fills a ha pa
  · obtain ⟨a, ha, -, ka, -⟩ := (hx.cell i).came y hy
    rw [ka]; exact h.index i a ha

/-- No cell is FILLING while no slice burst is in progress. -/
theorem SlicesIn.not_filling {m : Slm} {p : Plr} (h : SlicesIn m p) {i : Nat} {x : Slice} (hx : m.slice i = some x)
    (hb : p.burst ≠ .slice i) : x.phase ≠ .filling :=
  fun hf => hb ((h.filling i (h.length ▸ lt_length_of_slice hx)).1 ⟨x, hx, hf⟩)

theorem SlicesIn.fill {m m' : Slm} {p : Plr} (h : SlicesIn m p) {e : Eye} {k i : Nat} {tag ref : W16}
    (hl : p.lane = .active) (hb : p.burst = .none) (hk : k < 16) (ha : m.allocate e k tag ref = some (i, m')) :
    SlicesIn m' { p with burst := .slice i } := by
  obtain ⟨hi, hlen, hsame, hother, -⟩ := allocate_some ha
  have ready {j : Nat} {y : Slice} (hy : m'.slice j = some y) (py : y.phase = .ready) : m.slice j = some y := by
    by_cases hj : j = i
    · subst hj; rw [hsame] at hy; cases hy; cases py
    · rwa [hother j hj] at hy
  refine ⟨hlen.trans h.length, fun j j' y z hy hz py pz => ?_, fun j hj => ?_, fun _ => hl, fun j y hy => ?_⟩
  · exact h.ready j j' y z (ready hy py) (ready hz pz) py pz
  · constructor
    · rintro ⟨y, hy, py⟩
      by_contra hne
      have hji : j ≠ i := fun hji => hne (by rw [hji])
      rw [hother j hji] at hy
      exact h.not_filling hy (by rw [hb]; simp) py
    · intro hb'
      obtain rfl : i = j := Burst.slice.inj hb'
      exact ⟨_, hsame, rfl⟩
  · by_cases hj : j = i
    · subst hj; rw [hsame] at hy; cases hy; exact hk
    · rw [hother j hj] at hy; exact h.index j y hy

theorem SlicesIn.complete {m : Slm} {p : Plr} (h : SlicesIn m p) {i : Nat} (hb : p.burst = .slice i) (tbc : W32)
    (payload : List Byte) : SlicesIn (m.complete i tbc payload).1 { p with burst := .none } := by
  have idle : (Burst.none).isSlice = true → p.lane = .active := fun hn => by cases hn
  cases hx : m.slice i with
  | none =>
    have same : (m.complete i tbc payload).1 = m := by unfold Slm.complete; rw [hx]
    rw [same]
    refine ⟨h.length, h.ready, fun j hj => ⟨?_, fun hn => (nomatch hn)⟩, idle, h.index⟩
    rintro ⟨y, hy, py⟩
    obtain rfl : i = j := Burst.slice.inj (hb.symm.trans ((h.filling j hj).1 ⟨y, hy, py⟩))
    rw [hx] at hy; cases hy
  | some x =>
    obtain ⟨hlen, hsame, -⟩ := complete_some tbc payload hx
    have only {j : Nat} {y : Slice} (hj : j ≠ i) (hy : (m.complete i tbc payload).1.slice j = some y)
        (py : y.phase = .ready) : m.slice j = some y ∧ m.readyCell x.eye x.index ≠ some j := by
      obtain ⟨hd | hy', -⟩ := complete_other hx hj hy
      · rw [hd] at py; cases py
      · exact hy'
    have apart {j : Nat} {y : Slice} (hj : j ≠ i) (hy : (m.complete i tbc payload).1.slice j = some y)
        (py : y.phase = .ready) (he : x.eye = y.eye) (hk : x.index = y.index) : False := by
      obtain ⟨hy', hn⟩ := only hj hy py
      cases hr : m.readyCell x.eye x.index with
      | none => exact readyCell_none hr hy' ⟨py, he.symm, hk.symm⟩
      | some r =>
        obtain ⟨z, hz, pz, ez, kz⟩ := readyCell_some hr
        exact hn (hr.trans (congrArg some (h.ready r j z y hz hy' pz py (ez.trans he) (kz.trans hk))))
    refine ⟨hlen.trans h.length, fun j j' y z hy hz py pz he hk => ?_, fun j hj => ⟨?_, fun hn => (nomatch hn)⟩,
      idle, fun j y hy => ?_⟩
    · by_cases hj : j = i <;> by_cases hj' : j' = i
      · rw [hj, hj']
      · subst hj; rw [hsame] at hy; cases hy
        exact absurd (apart hj' hz pz he hk) id
      · subst hj'; rw [hsame] at hz; cases hz
        exact absurd (apart hj hy py he.symm hk.symm) id
      · exact h.ready j j' y z (only hj hy py).1 (only hj' hz pz).1 py pz he hk
    · rintro ⟨y, hy, py⟩
      by_cases hji : j = i
      · subst hji; rw [hsame] at hy; cases hy; cases py
      · obtain ⟨hd | ⟨hy', -⟩, -⟩ := complete_other hx hji hy
        · rw [hd] at py; cases py
        · exact absurd py (h.not_filling hy' (by rw [hb]; simpa using Ne.symm hji))
    · by_cases hj : j = i
      · subst hj; rw [hsame] at hy; cases hy; exact h.index j x hx
      · obtain ⟨-, z, hz, -, hk⟩ := complete_other hx hj hy
        rw [hk]; exact h.index j z hz

/-- The slices after a cell has been freed. -/
theorem slice_breakFill {m : Slm} {i j : Nat} {y : Slice} (h : (m.breakFill i).slice j = some y) :
    j ≠ i ∧ m.slice j = some y := by
  unfold Slm.breakFill at h
  by_cases hj : j = i
  · subst hj
    have hlt := lt_length_of_slice h
    rw [length_setCell] at hlt
    rw [slice_setCell_same _ hlt] at h
    cases h
  · exact ⟨hj, by rwa [slice_setCell_other _ hj] at h⟩

theorem SlicesIn.breakFill {m : Slm} {p : Plr} (h : SlicesIn m p) {i : Nat} (hb : p.burst = .slice i) :
    SlicesIn (m.breakFill i) { p with burst := .none } := by
  refine ⟨(length_setCell ..).trans h.length, fun j j' y z hy hz => ?_, fun j hj => ⟨?_, fun hn => (nomatch hn)⟩,
    fun hn => (nomatch hn), fun j y hy => h.index j y (slice_breakFill hy).2⟩
  · exact h.ready j j' y z (slice_breakFill hy).2 (slice_breakFill hz).2
  · rintro ⟨y, hy, py⟩
    obtain ⟨hne, hy'⟩ := slice_breakFill hy
    exact absurd py (h.not_filling hy' (by rw [hb]; simpa using Ne.symm hne))

theorem BlockUpdate.slicesIn {s t : State} (h : BlockUpdate s t) (hs : SlicesIn s.slm s.plr) :
    SlicesIn t.slm t.plr := by
  cases h with
  | quiet hq => rw [hq.slm, hq.plr]; exact hs
  | plr x hx => exact hs.plr hx
  | slm x hx => exact hs.slm hx
  | fill e k tag ref hl hb hk ha => exact hs.fill hl hb hk ha
  | complete payload hb => exact hs.complete hb s.ftb.tbc payload
  | breakFill hb => exact hs.breakFill hb
  | _ => exact hs

/-! ## Ages -/

/-- The age of a RETAINED slice is true at a TBC (R28). -/
def Slice.Aged (tbc : W32) (x : Slice) : Prop :=
  x.phase = .retained → x.age ≤ 2 ^ 32 - 1 ∧ x.scanEnd.isSome ∧
    (x.age < 2 ^ 32 - 1 → x.age = (tbc - x.scanEnd.getD 0).toNat)

theorem agesSound_iff (s : State) : s.AgesSound ↔ ∀ i x, s.slm.slice i = some x → x.Aged s.ftb.tbc := by
  constructor
  · intro h i x hx
    exact h (some x) (List.mem_of_getElem? (slice_eq_some_iff.1 hx)) x (by simp)
  · intro h c hc x hx
    obtain ⟨i, hi⟩ := List.mem_iff_getElem?.1 hc
    obtain rfl : c = some x := by simpa using hx
    exact h i x (slice_eq_some_iff.2 hi)

/-- A slice that is not RETAINED has no age to be true. -/
theorem aged_of_ne {tbc : W32} {x : Slice} (h : x.phase ≠ .retained) : x.Aged tbc := fun hr => absurd hr h

theorem BlockUpdate.aged {s t : State} (h : BlockUpdate s t)
    (hs : ∀ i x, s.slm.slice i = some x → x.Aged s.ftb.tbc) :
    ∀ i x, t.slm.slice i = some x → x.Aged t.ftb.tbc := by
  rw [h.ftb_keeps.1]
  cases h with
  | quiet hq => rw [hq.slm]; exact hs
  | slm m hm =>
    intro i y hy hr
    obtain ⟨x, hx, -, -, -, -, hret⟩ := (hm.cell i).came y hy
    rcases hret hr with ⟨hxr, hage, hend⟩ | ⟨hage, hend⟩
    · rw [hage, hend]; exact hs i x hx hxr
    · rw [hage, hend]; simp
  | fill e k tag ref hl hb hk ha =>
    obtain ⟨-, -, hsame, hother, -⟩ := allocate_some ha
    next i m =>
    intro j y hy
    by_cases hj : j = i
    · subst hj
      obtain rfl := Option.some.inj (hsame.symm.trans hy)
      exact aged_of_ne (by simp [Slice.filling])
    · exact hs j y ((hother j hj).symm.trans hy)
  | @complete i payload hb =>
    intro j y hy
    cases hx : s.slm.slice i with
    | none => exact hs j y (by rwa [withPlr_slm, withSlm_slm, Slm.complete, hx] at hy)
    | some x =>
      by_cases hj : j = i
      · subst hj
        obtain ⟨-, hsame, -⟩ := complete_some s.ftb.tbc payload hx
        obtain rfl := Option.some.inj (hsame.symm.trans hy)
        exact aged_of_ne (by simp)
      · obtain ⟨hd | ⟨hy', -⟩, -⟩ := complete_other hx hj hy
        · exact aged_of_ne (by rw [hd]; simp)
        · exact hs j y hy'
  | breakFill hb => exact fun j y hy => hs j y (slice_breakFill hy).2
  | _ => exact hs

/-- A microsecond ages a RETAINED slice by one, up to the bound. -/
theorem Slice.Aged.tick {tbc : W32} {x : Slice} (h : x.Aged tbc) : x.tick.Aged (tbc + 1) := by
  unfold Slice.tick
  split
  · next hr =>
    obtain ⟨hle, hend, htrue⟩ := h hr
    intro _
    refine ⟨Nat.min_le_right _ _, hend, fun hlt => ?_⟩
    have hold : x.age = (tbc - x.scanEnd.getD 0).toNat := htrue (by simp only at hlt; omega)
    simp only at hlt ⊢
    bv_omega
  · next hn => exact aged_of_ne hn

theorem slm_tick_slice {m : Slm} {i : Nat} {y : Slice} (h : m.tick.slice i = some y) :
    ∃ x, m.slice i = some x ∧ y = x.tick := by
  have hy := slice_eq_some_iff.1 h
  rw [Slm.tick, List.getElem?_map] at hy
  obtain ⟨c, hc, hcy⟩ := Option.map_eq_some_iff.1 hy
  obtain ⟨x, rfl, hx⟩ := Option.map_eq_some_iff.1 hcy
  exact ⟨x, slice_eq_some_iff.2 hc, hx.symm⟩

theorem slice_tick_frame (x : Slice) : x.tick.phase = x.phase ∧ x.tick.eye = x.eye ∧ x.tick.index = x.index := by
  unfold Slice.tick; split <;> exact ⟨rfl, rfl, rfl⟩

/-- A microsecond changes ages alone. -/
theorem slm_tick_moves {m : Slm} {p : Plr} (h : SlicesIn m p) : SlicesIn m.tick p := by
  refine ⟨by simpa [Slm.tick] using h.length, fun i j y z hy hz py pz he hk => ?_, fun i hi => ?_, h.active,
    fun i y hy => ?_⟩
  · obtain ⟨a, ha, rfl⟩ := slm_tick_slice hy
    obtain ⟨b, hb, rfl⟩ := slm_tick_slice hz
    simp only [slice_tick_frame] at py pz he hk
    exact h.ready i j a b ha hb py pz he hk
  · rw [← h.filling i hi]
    constructor
    · rintro ⟨y, hy, py⟩
      obtain ⟨a, ha, rfl⟩ := slm_tick_slice hy
      exact ⟨a, ha, by rwa [(slice_tick_frame a).1] at py⟩
    · rintro ⟨a, ha, pa⟩
      refine ⟨a.tick, slice_eq_some_iff.2 ?_, by rw [(slice_tick_frame a).1]; exact pa⟩
      simp [Slm.tick, slice_eq_some_iff.1 ha]
  · obtain ⟨a, ha, rfl⟩ := slm_tick_slice hy
    rw [(slice_tick_frame a).2.2]; exact h.index i a ha

/-- A reset leaves every cell FREE. -/
theorem slice_reset (i : Nat) : Slm.reset.slice i = none := by
  unfold Slm.slice Slm.reset
  rw [List.getElem?_replicate]; split <;> rfl

theorem slicesIn_reset {p : Plr} (h : p.burst = .none) : SlicesIn Slm.reset p := by
  refine ⟨by simp [Slm.reset], fun i j x y hx => ?_, fun i hi => ?_, fun hb => ?_, fun i x hx => ?_⟩
  · rw [slice_reset] at hx; cases hx
  · rw [h]; simp [slice_reset]
  · rw [h] at hb; cases hb
  · rw [slice_reset] at hx; cases hx

theorem tick_ftb_tbc (f : Ftb) : f.tick.tbc = f.tbc + 1 := by unfold Ftb.tick; split <;> rfl

end Sys2Proof.Machine

section Settled
open Sys2Proof Sys2Proof.Machine

/-- Settles O10: `SlicesIn` says the predicate of the slices in the cells, and every update keeps it. -/
theorem stepKeepsTheSlicesSound : Obligations.StepKeepsTheSlicesSound := by
  intro s t hs h
  refine (slicesSound_iff t).2 (step_keeps_block (P := fun s => SlicesIn s.slm s.plr) (fun _ _ u => u.slicesIn)
    (fun _ hs => hs) (fun _ _ _ _ => slicesIn_reset rfl) (fun s hs => ?_) ((slicesSound_iff s).1 hs) h)
  unfold State.tick
  split
  · exact hs
  · exact slm_tick_moves ⟨hs.length, hs.ready, hs.filling, hs.active, hs.index⟩

/-- Settles O11: the ages are 0 at a scan end and count the microseconds since. -/
theorem stepKeepsTheAgesTrue : Obligations.StepKeepsTheAgesTrue := by
  intro s t hs h
  refine (agesSound_iff t).2 (step_keeps_block (P := fun s => ∀ i x, s.slm.slice i = some x → x.Aged s.ftb.tbc)
    (fun _ _ u => u.aged) (fun s hs => ?_) (fun _ _ _ _ i x hx => ?_) (fun s hs => ?_) ((agesSound_iff s).1 hs) h)
  · rw [withFtb_ftb, (wrap_fields ..).1]; exact hs
  · exact nomatch (slice_reset i).symm.trans hx
  · unfold State.tick
    split
    · exact hs
    · intro i y hy
      obtain ⟨x, hx, rfl⟩ := slm_tick_slice hy
      have := (hs i x hx).tick
      rwa [← tick_ftb_tbc] at this

end Settled
end

section
/-! The ledger of replies (O16), the counters and the upstream lane (O17) after every step. -/

namespace Sys2Proof.Machine

/-! ## What the arbiter leaves of the port -/

/-- The arbiter leaves what is not a source. -/
theorem arbitrate_smp (s : State) : s.arbitrate.smp.counters = s.smp.counters ∧
    s.arbitrate.smp.subtraction = s.smp.subtraction ∧ s.arbitrate.smp.reserved = s.smp.reserved ∧
      s.arbitrate.smp.inbound = s.smp.inbound ∧ s.arbitrate.smp.interp = s.smp.interp := by
  obtain ⟨-, -, -, -, -, -, -, -, -, -, _, _, _, _, _, h⟩ := arbitrate_frame s
  rw [h]; exact ⟨rfl, rfl, rfl, rfl, rfl⟩

/-- The arbiter takes replies and notices from their queues and adds none. -/
theorem arbitrate_length_le (s : State) : s.arbitrate.smp.held.length ≤ s.smp.held.length ∧
    s.arbitrate.smp.notices.length ≤ s.smp.notices.length := by
  unfold State.arbitrate
  repeat' split
  all_goals constructor
  all_goals simp_all

/-! ## Counters -/

/-- `State.CountersSound` of the port alone. -/
def Smp.CountersIn (x : Smp) : Prop :=
  (∀ k, x.counters.get k ≤ 65535) ∧ ∀ d, x.subtraction = some d → ∀ k, d.get k ≤ x.counters.get k

theorem mem_counter_all (k : Counter) : k ∈ Counter.all := by cases k <;> decide

theorem countersSound_iff (s : State) : s.CountersSound ↔ s.smp.CountersIn :=
  ⟨fun ⟨h, h'⟩ => ⟨fun k => h k (mem_counter_all k), fun d hd k => h' d (by simp [hd]) k (mem_counter_all k)⟩,
    fun ⟨h, h'⟩ => ⟨fun k _ => h k, fun d hd k _ => h' d (by simpa using hd) k⟩⟩

/-- Counting saturates, and takes nothing from a counter. -/
theorem Smp.CountersIn.count {x : Smp} (h : x.CountersIn) (k : Counter) (n : Nat) :
    ({ x with counters := x.counters.add k n } : Smp).CountersIn := by
  have grows (k' : Counter) : x.counters.get k' ≤ (x.counters.add k n).get k' ∧
      (x.counters.add k n).get k' ≤ 65535 := by
    have := h.1 k'
    rw [Counters.get_add]
    split
    · next he => subst he; omega
    · exact ⟨Nat.le_refl _, this⟩
  exact ⟨fun k' => (grows k').2, fun d hd k' => (h.2 d hd k').trans (grows k').1⟩

theorem countersIn_arbitrate {s : State} (h : s.smp.CountersIn) : s.arbitrate.smp.CountersIn := by
  obtain ⟨hc, hs, -⟩ := arbitrate_smp s
  unfold Smp.CountersIn
  rw [hc, hs]; exact h

/-- A subtraction takes from each counter what the reply reported. -/
theorem Counters.get_minus (c d : Counters) (k : Counter) : (c.minus d).get k = c.get k - d.get k := by
  cases k <;> rfl

theorem Smp.CountersIn.subtract {x : Smp} (h : x.CountersIn) : x.subtract.CountersIn := by
  unfold Smp.subtract
  split
  · exact h
  · refine ⟨fun k => ?_, fun d hd => nomatch hd⟩
    rw [Counters.get_minus]
    exact (Nat.sub_le _ _).trans (h.1 k)

theorem countersIn_answerAtReception {s : State} (h : s.smp.CountersIn) (code tag : Byte) (st : Status) :
    (s.answerAtReception code tag st).smp.CountersIn := by
  unfold State.answerAtReception
  split
  · exact h.count ..
  · exact countersIn_arbitrate h

theorem Update.countersIn {a b : State × Nat} (u : Update a b) (h : a.1.smp.CountersIn) : b.1.smp.CountersIn := by
  cases u with
  | count k c => exact h.count k c
  | subtraction => exact ⟨h.1, fun d hd k => Option.some.inj hd ▸ Nat.le_refl _⟩
  | @recordSent s _ =>
    refine countersIn_arbitrate (s := s.withSmp _) ?_
    split
    · exact h.subtract
    · exact h
  | @notify s _ x =>
    simp only [State.notify]
    split
    · exact countersIn_arbitrate (s := s.withSmp _) h
    · exact h.count ..
  | offerMotion x r => exact countersIn_arbitrate (s := State.withMot _ _) h
  | offerMic x => exact countersIn_arbitrate (s := State.withAud _ _) h
  | offerFrame r => exact countersIn_arbitrate (s := State.withSmp _ _) h
  | offerMonitor r => exact countersIn_arbitrate (s := State.withSmp _ _) h
  | answerAtReception code tag st => exact countersIn_answerAtReception h code tag st
  | offerCommand code tag c =>
    simp only [State.offerCommand]
    split
    · exact h.count ..
    · split
      · exact h
      · exact countersIn_answerAtReception h ..
  | beginCommand =>
    simp only [State.beginCommand]
    split <;> exact h
  | claim c hc =>
    obtain ⟨i, r, he⟩ := claimed_frame _ c
    rw [claim_some hc, claiming_smp, he]; exact h
  | reply r => exact countersIn_arbitrate (s := State.withSmp _ _) h
  | answerMode x r => exact countersIn_arbitrate (s := State.withSmp _ _) h
  | answerStart x r => exact countersIn_arbitrate (s := State.withSmp _ _) h
  | answerCalibration x r => exact countersIn_arbitrate (s := State.withSmp _ _) h
  | answerRound x r => exact countersIn_arbitrate (s := State.withSmp _ _) h
  | _ => exact h

/-! ## The upstream lane -/

/-- After the arbiter's choice the lane is free only with no record waiting (R158). -/
theorem upstreamSound_arbitrate {s : State} (h : s.smp.notices.length ≤ 8) : s.arbitrate.UpstreamSound :=
  ⟨arbitrate_sound s, (arbitrate_length_le s).2.trans h⟩

/-- The lane and its sources as they were. -/
theorem upstreamSound_of_sources {s t : State} (h : s.UpstreamSound) (sending : t.smp.sending = s.smp.sending)
    (held : t.smp.held = s.smp.held) (notices : t.smp.notices = s.smp.notices)
    (frames : t.smp.frameSlot = s.smp.frameSlot) (mon : t.smp.monSlot = s.smp.monSlot)
    (queue : t.mot.queue = s.mot.queue) (uplink : t.aud.uplink = s.aud.uplink) : t.UpstreamSound := by
  rw [State.UpstreamSound, State.hasRecord, sending, held, notices, frames, mon, queue, uplink]
  exact h

theorem upstreamSound_answerAtReception {s : State} (h : s.UpstreamSound) (code tag : Byte) (st : Status) :
    (s.answerAtReception code tag st).UpstreamSound := by
  unfold State.answerAtReception
  split
  · exact h
  · exact upstreamSound_arbitrate h.2

theorem Update.upstreamSound {a b : State × Nat} (u : Update a b) (h : a.1.UpstreamSound) : b.1.UpstreamSound := by
  cases u with
  | mot x hx =>
    exact upstreamSound_of_sources h rfl rfl rfl rfl rfl hx.queue rfl
  | aud x hh hu =>
    exact upstreamSound_of_sources h rfl rfl rfl rfl rfl rfl hu
  | enterPowerFail g x hg hs hh hu =>
    exact upstreamSound_of_sources h rfl rfl rfl rfl rfl rfl hu
  | leavePowerFail g x hg hs hh hu =>
    exact upstreamSound_of_sources h rfl rfl rfl rfl rfl rfl hu
  | deferStart x h1 h2 hq =>
    exact upstreamSound_of_sources h rfl rfl rfl rfl rfl hq rfl
  | @recordSent s _ =>
    refine upstreamSound_arbitrate ?_
    rw [withSmp_smp]
    unfold Smp.subtract
    repeat' split
    all_goals exact h.2
  | @notify s _ x =>
    simp only [State.notify]
    split
    · next hl => exact upstreamSound_arbitrate (by simpa using hl)
    · exact h
  | offerMotion x r => exact upstreamSound_arbitrate h.2
  | offerMic x => exact upstreamSound_arbitrate h.2
  | offerFrame r => exact upstreamSound_arbitrate h.2
  | offerMonitor r => exact upstreamSound_arbitrate h.2
  | answerAtReception code tag st => exact upstreamSound_answerAtReception h code tag st
  | offerCommand code tag c =>
    simp only [State.offerCommand]
    split
    · exact h
    · split
      · exact h
      · exact upstreamSound_answerAtReception h ..
  | beginCommand =>
    simp only [State.beginCommand]
    split <;> exact h
  | @claim s _ _ c hc =>
    obtain ⟨i, r, he⟩ := claimed_frame s.smp c
    rw [claim_some hc, State.claiming, he]; exact h
  | reply r => exact upstreamSound_arbitrate h.2
  | answerMode x r => exact upstreamSound_arbitrate h.2
  | answerStart x r => exact upstreamSound_arbitrate h.2
  | answerCalibration x r => exact upstreamSound_arbitrate h.2
  | answerRound x r => exact upstreamSound_arbitrate h.2
  | _ => exact h

theorem aud_tick_uplink (a : Aud) : a.tick.uplink = a.uplink := by unfold Aud.tick; split <;> rfl

theorem tick_upstreamSound {s : State} (h : s.UpstreamSound) : s.tick.UpstreamSound := by
  unfold State.tick
  split
  all_goals exact upstreamSound_of_sources h rfl rfl rfl rfl rfl rfl (aud_tick_uplink _)

/-! ## The ledger of replies -/

/-- `State.LedgerSound` in the midst of a command's execution, which still owes some replies of its own. -/
def Ledger (a : State × Nat) : Prop :=
  a.1.DeferredSound ∧ a.1.smp.reserved = a.1.unanswered + a.2 ∧ a.1.smp.reserved + a.1.smp.held.length ≤ 16 ∧
    a.1.smp.inbound.length ≤ 8

theorem ledgerSound_iff (s : State) : s.LedgerSound ↔ Ledger (s, 0) := Iff.rfl

theorem ledger_arbitrate {s : State} {n : Nat} (h : Ledger (s, n)) : Ledger (s.arbitrate, n) := by
  obtain ⟨hd, hr, hl, hi⟩ := h
  obtain ⟨-, -, er, ei, et⟩ := arbitrate_smp s
  obtain ⟨-, -, -, -, emon, -, emdc, -, ⟨q, emot⟩, -⟩ := arbitrate_frame s
  have held := (arbitrate_length_le s).1
  refine ⟨?_, ?_, ?_, ?_⟩
  · dsimp only; rw [State.DeferredSound, emon, emdc, emot]; exact hd
  · dsimp only; rw [State.unanswered, er, ei, et, emon, emdc, emot]; exact hr
  · dsimp only; rw [er]; exact (Nat.add_le_add_left held _).trans hl
  · dsimp only; rw [ei]; exact hi

/-- A reply discharges one of the replies owed. -/
theorem ledger_makeReply {s : State} {n : Nat} (h : Ledger (s, n + 1)) (r : Reply) : Ledger (s.makeReply r, n) := by
  obtain ⟨hd, hr, hl, hi⟩ := h
  refine ledger_arbitrate ⟨hd, ?_, ?_, hi⟩
  · simp only [State.unanswered, withSmp_smp, withSmp_mdc, withSmp_mot, withSmp_mon] at hr ⊢; omega
  · simp only [withSmp_smp, List.length_append, List.length_cons, List.length_nil] at hr hl ⊢; omega

theorem ledger_answerAtReception {s : State} {n : Nat} (h : Ledger (s, n)) (code tag : Byte) (st : Status) :
    Ledger (s.answerAtReception code tag st, n) := by
  unfold State.answerAtReception
  split
  · exact h
  · next hf =>
    obtain ⟨hd, hr, hl, hi⟩ := h
    refine ledger_arbitrate ⟨hd, hr, ?_, hi⟩
    simp only [Smp.freeEntries, withSmp_smp, List.length_append, List.length_cons, List.length_nil] at hf ⊢
    omega

theorem inFlight_some {α : Type} {t : Option α} (h : t.isSome = true) : inFlight t = 1 := by simp [inFlight, h]
theorem inFlight_congr {α : Type} {t u : Option α} (h : t.isSome = u.isSome) : inFlight t = inFlight u := by
  simp [inFlight, h]
@[simp] theorem inFlight_none {α : Type} : inFlight (none : Option α) = 0 := rfl
@[simp] theorem inFlight_some_eq {α : Type} (x : α) : inFlight (some x) = 1 := rfl

/-- A command that waits for its operation owes no reply any more: the operation does. -/
theorem ledger_of_unanswered {s t : State} {n m : Nat} (h : Ledger (s, n)) (hsmp : t.smp = s.smp)
    (hd : s.DeferredSound → t.DeferredSound) (hu : t.unanswered + m = s.unanswered + n) : Ledger (t, m) := by
  obtain ⟨hd', hr, hl, hi⟩ := h
  refine ⟨hd hd', ?_, ?_, ?_⟩
  · dsimp only; rw [hsmp, hu]; exact hr
  · dsimp only; rw [hsmp]; exact hl
  · dsimp only; rw [hsmp]; exact hi

theorem deferred_withMot {s : State} {x : Mot} (h : s.DeferredSound) (hx : s.mot.Deferred → x.Deferred) :
    (s.withMot x).DeferredSound := by
  obtain ⟨h1, h2, h3⟩ := (deferredSound_iff s).1 h
  exact (deferredSound_iff _).2 ⟨h1, hx h2, h3⟩

theorem deferred_withMon {s : State} {x : Mon} (h : s.DeferredSound) (hx : s.mon.Deferred → x.Deferred) :
    (s.withMon x).DeferredSound := by
  obtain ⟨h1, h2, h3⟩ := (deferredSound_iff s).1 h
  exact (deferredSound_iff _).2 ⟨h1, h2, hx h3⟩

theorem deferred_withMdc {s : State} {x : Mdc} (h : s.DeferredSound)
    (hx : (s.mdc.modeTag.isSome → s.mdc.device.moving) → x.modeTag.isSome → x.device.moving) :
    (s.withMdc x).DeferredSound := by
  obtain ⟨h1, h2, h3⟩ := (deferredSound_iff s).1 h
  exact (deferredSound_iff _).2 ⟨hx h1, h2, h3⟩

/-- The update of the Motion Unit that ends a start keeps the rest of `Mot.Deferred`. -/
theorem ledger_withMot {s : State} {x : Mot} {n m : Nat} (h : Ledger (s, n)) (hd : s.mot.Deferred → x.Deferred)
    (hu : inFlight x.starting + inFlight x.cal + m = inFlight s.mot.starting + inFlight s.mot.cal + n) :
    Ledger (s.withMot x, m) := by
  refine ledger_of_unanswered h rfl (deferred_withMot · hd) ?_
  simp only [State.unanswered, withMot_smp, withMot_mdc, withMot_mot, withMot_mon]
  omega

theorem ledger_withMon {s : State} {x : Mon} {n m : Nat} (h : Ledger (s, n)) (hd : s.mon.Deferred → x.Deferred)
    (hu : inFlight x.oneShotTag + m = inFlight s.mon.oneShotTag + n) : Ledger (s.withMon x, m) := by
  refine ledger_of_unanswered h rfl (deferred_withMon · hd) ?_
  simp only [State.unanswered, withMon_smp, withMon_mdc, withMon_mot, withMon_mon]
  omega

theorem ledger_withMdc {s : State} {x : Mdc} {n m : Nat} (h : Ledger (s, n))
    (hd : (s.mdc.modeTag.isSome → s.mdc.device.moving) → x.modeTag.isSome → x.device.moving)
    (hu : inFlight x.modeTag + m = inFlight s.mdc.modeTag + n) : Ledger (s.withMdc x, m) := by
  refine ledger_of_unanswered h rfl (deferred_withMdc · hd) ?_
  simp only [State.unanswered, withMdc_smp, withMdc_mdc, withMdc_mot, withMdc_mon]
  omega

/-- The interpreter takes on a command with its RESERVED entry; the claim of its execution passes the reply it owes
to the execution. A sender's own execution reserves an entry first. -/
theorem ledger_claim {s t : State} {n : Nat} {c : Instr} (hc : s.claim c = some t) (h : Ledger (s, n)) :
    Ledger (t, n + 1) := by
  obtain ⟨hd, hr, hl, hi⟩ := h
  unfold State.claim at hc
  split at hc
  · next he =>
    obtain rfl := Option.some.inj hc
    have busy : inFlight s.smp.interp = 1 := by
      refine inFlight_some ?_
      unfold Smp.executes at he
      split at he <;> simp_all
    refine ⟨hd, ?_, hl, hi⟩
    simp only [State.unanswered, withSmp_smp, withSmp_mdc, withSmp_mot, withSmp_mon, inFlight_none] at hr ⊢
    omega
  · split at hc
    · cases hc
    · next hf =>
      obtain rfl := Option.some.inj hc
      refine ⟨hd, ?_, ?_, hi⟩
      · simp only [State.unanswered, withSmp_smp, withSmp_mdc, withSmp_mot, withSmp_mon] at hr ⊢; omega
      · simp only [Smp.freeEntries, withSmp_smp] at hf ⊢; omega

/-- A command accepted into the inbound queue reserves its entry (R153). -/
theorem ledger_offerCommand {s : State} {n : Nat} (h : Ledger (s, n)) (code tag : Byte) (c : Instr) :
    Ledger (s.offerCommand code tag c, n) := by
  unfold State.offerCommand
  split
  · exact h
  · next hf =>
    split
    · next hq =>
      obtain ⟨hd, hr, hl, -⟩ := h
      refine ⟨hd, ?_, ?_, ?_⟩
      · simp only [State.unanswered, withSmp_smp, withSmp_mdc, withSmp_mot, withSmp_mon, List.length_append,
          List.length_cons, List.length_nil] at hr ⊢
        omega
      · simp only [Smp.freeEntries, withSmp_smp] at hf ⊢; omega
      · simpa using hq
    · exact ledger_answerAtReception h ..

theorem ledger_beginCommand {s : State} {n : Nat} (h : Ledger (s, n)) (hn : s.smp.interp = none) :
    Ledger (s.beginCommand, n) := by
  unfold State.beginCommand
  split
  · exact h
  · next c rest hq =>
    obtain ⟨hd, hr, hl, hi⟩ := h
    refine ⟨hd, ?_, hl, ?_⟩
    · simp only [State.unanswered, withSmp_smp, withSmp_mdc, withSmp_mot, withSmp_mon, hq, hn, inFlight_none,
        inFlight_some_eq, List.length_cons] at hr ⊢
      omega
    · simp only [hq, withSmp_smp, List.length_cons] at hi ⊢; omega

theorem ledger_recordSent {s : State} {n : Nat} (h : Ledger (s, n)) : Ledger (s.recordSent, n) := by
  refine ledger_arbitrate ?_
  unfold Smp.subtract
  repeat' split
  all_goals exact h

theorem Update.ledger {a b : State × Nat} (u : Update a b) (h : Ledger a) : Ledger b := by
  cases u with
  | mot x hx =>
    exact ledger_withMot h hx.deferred (by rw [inFlight_congr hx.starting, inFlight_congr hx.cal])
  | mon x hx => exact ledger_withMon h hx.deferred (by rw [inFlight_congr hx.tag])
  | mdc x hx =>
    exact ledger_withMdc h (fun hm ht => hx.moving (hx.tag ▸ ht) (hm (hx.tag ▸ ht))) (by rw [hx.tag])
  | recordSent => exact ledger_recordSent h
  | notify x =>
    simp only [State.notify]
    split
    · exact ledger_arbitrate (s := State.withSmp _ _) h
    · exact h
  | offerMotion x r hx =>
    have offered : Ledger (State.withMot _ x, _) :=
      ledger_withMot h hx.deferred (by rw [inFlight_congr hx.starting, inFlight_congr hx.cal])
    exact ledger_arbitrate (s := State.withMot _ _) offered
  | offerMic x => exact ledger_arbitrate (s := State.withAud _ _) h
  | offerFrame r => exact ledger_arbitrate (s := State.withSmp _ _) h
  | offerMonitor r => exact ledger_arbitrate (s := State.withSmp _ _) h
  | answerAtReception code tag st => exact ledger_answerAtReception h code tag st
  | offerCommand code tag c => exact ledger_offerCommand h code tag c
  | beginCommand hn => exact ledger_beginCommand h hn
  | claim c hc => exact ledger_claim hc h
  | reply r => exact ledger_makeReply h r
  | @deferMode s n x hm hx ht =>
    have idle : s.mdc.modeTag = none := by
      by_contra hne
      rw [h.1.1 (Option.isSome_iff_ne_none.2 hne)] at hm; cases hm
    exact ledger_withMdc h (fun _ _ => hx) (by rw [inFlight_some ht, idle, inFlight_none]; omega)
  | answerMode x r hs ht =>
    refine ledger_makeReply (ledger_withMdc h (fun _ hx => ?_) ?_) r
    · rw [ht] at hx; cases hx
    · rw [ht, inFlight_none, inFlight_some hs]; omega
  | @deferStart s n x hoff hst hq hcal hs hd =>
    have idle : s.mot.starting = none := by
      by_contra hne
      have starting := h.1.2.1 (Option.isSome_iff_ne_none.2 hne)
      rw [hoff] at starting; cases starting
    exact ledger_withMot h hd (by rw [inFlight_some hst, hcal, idle, inFlight_none]; omega)
  | answerStart x r hst hx hq hcal hs hd =>
    refine ledger_makeReply (ledger_withMot h hd ?_) r
    rw [hx, hcal, inFlight_none, inFlight_some hst]; omega
  | deferCalibration c hc =>
    exact ledger_withMot h id (by simp only [hc, inFlight_none, inFlight_some_eq]; omega)
  | @answerCalibration s n b r hc hs =>
    refine ledger_makeReply (ledger_withMot (x := { s.mot with cal := none, bias := b }) h id ?_) r
    simp only [inFlight_none, inFlight_some hc]; omega
  | @deferRound s n x hn ht hs hd =>
    have idle : s.mon.oneShotTag = none := Mon.Deferred.tag_none ((deferredSound_iff s).1 h.1).2.2 hn
    exact ledger_withMon h (fun _ => hd) (by rw [inFlight_some ht, idle, inFlight_none]; omega)
  | answerRound x r ht hx hs =>
    refine ledger_makeReply (ledger_withMon h (fun _ ho => ?_) ?_) r
    · rw [hx] at ho; cases ho
    · rw [hx, inFlight_none, inFlight_some ht]; omega
  | _ => exact h

theorem inFlight_map {α : Type} (t : Option α) (f : α → α) : inFlight (t.map f) = inFlight t :=
  inFlight_congr (by cases t <;> rfl)

/-- A microsecond runs timers; it takes and answers no command. -/
theorem tick_ledger {s : State} (h : Ledger (s, 0)) : Ledger (s.tick, 0) := by
  unfold State.tick
  split
  · exact h
  · obtain ⟨⟨h1, h2, h3, h4⟩, hr, hl, hi⟩ := h
    refine ⟨⟨h1, h2, ?_, ?_⟩, ?_, hl, hi⟩
    · simp only [Mot.tick, Option.any_map]; exact h3
    · simp only [Mon.tick, Option.any_map]; exact h4
    · refine hr.trans ?_
      simp only [State.unanswered, Smp.tick, Mdc.tick, Mot.tick, Mon.tick, inFlight_map]

end Sys2Proof.Machine

section Settled
open Sys2Proof Sys2Proof.Machine

/-- Settles O17: counting saturates and a pending subtraction holds what was counted; every record that joins a source
is followed by the arbiter's choice. -/
theorem stepKeepsCountersAndArbiterSound : Obligations.StepKeepsCountersAndArbiterSound :=
  ⟨fun s t hs h => (countersSound_iff t).2 (step_keeps (P := fun a => a.1.smp.CountersIn) (fun _ _ u => u.countersIn)
      (fun _ hs => hs) (fun _ _ _ _ => (countersSound_iff State.reset).1 (by decide))
      (fun s hs => by unfold State.tick; split <;> exact hs) ((countersSound_iff s).1 hs) h),
    fun _ _ hs h => step_keeps (P := fun a => a.1.UpstreamSound) (fun _ _ u => u.upstreamSound) (fun _ hs => hs)
      (fun _ _ _ _ => show State.reset.UpstreamSound by decide) (fun _ => tick_upstreamSound) hs h⟩

/-- Settles O16: a claim takes on a reply owed, and every reply or deferral discharges one, so that `Ledger` holds
throughout a command's execution. -/
theorem stepKeepsTheReplyLedger : Obligations.StepKeepsTheReplyLedger := fun _ _ hs h =>
  step_keeps (P := Ledger) (fun _ _ u => u.ledger) (fun _ hs => hs)
    (fun _ _ _ _ => show State.reset.LedgerSound by decide) (fun _ => tick_ledger) hs h

end Settled
end

section
/-! The front of the queue (O1), commands that cannot run (O4), STATUS READ_CLEAR (O24), the marks (O26) and the strobe
and sync outputs (O27). -/

namespace Sys2Proof.Machine

/-! ## The two ways in which a command takes effect -/

/-- Every row with a command code is a host command. -/
theorem exec_eq_execute {c : Instr} (h : commandCode c ≠ 0) : ∃ effect, ∀ s, exec c s = execute c effect s := by
  cases c <;> first | exact ⟨_, fun _ => rfl⟩ | exact absurd rfl h

/-- Every other row is an event of the part, or reaches a part held in reset. -/
theorem exec_eq_occur {c : Instr} (h : commandCode c = 0) (ha : actsInReset c = false) :
    ∃ due effect, ∀ s, exec c s = occur due effect s := by
  cases c <;> first | exact ⟨_, _, fun _ => rfl⟩ | simp [commandCode, actsInReset] at h ha

/-! ## Marks, pulses and lanes -/

/-- With no doze entered or left the Mode Controller awaits no answer of the lane. -/
theorem laneAnswer_free {s : State} (h : s.LaneFree) : s.laneAnswer = s := by
  obtain ⟨hd, hw⟩ := h
  simp [State.laneAnswer, hd, hw]

theorem scanMark_eq (s : State) : s.scanMark = if s.scn.mode = .scanning ∨ s.scn.mode = .stopPending then
    s.withScn { s.scn with sched := Eyes.both (some 0) } else s := by simp [State.scanMark]

/-- Where the Mode Controller awaits no answer, the EC4 mark only wakes an IDLE lane. -/
theorem wakeMark_free {s : State} (h : s.LaneFree) : s.wakeMark = if s.plr.lane = .idle ∧ s.mdc.device ≠ .doze then
    s.withPlr { s.plr with lane := .waking, waitLeft := s.plr.tWait } else s := by
  have wake : (s.withPlr s.plr.wake).laneAnswer = s.withPlr s.plr.wake := laneAnswer_free h
  rw [State.wakeMark, wake]
  simp [Plr.wake]

/-- A mark is raised in its microsecond, once in a frame (R11). -/
theorem exec_mark {s : State} {ch : MarkChannel} (hr : s.mdc.inReset = false) (hw : s.ftb.wrapDue = false)
    (hm : s.ftb.marked ch = false) (ht : s.ftb.fc = s.ftb.markTick ch) :
    exec (.mark ch) s = .next (s.raiseMark ch) :=
  occur_due (due := State.markIsDue ch) (effect := fun s => s.raiseMark ch) hr (by simp [State.markIsDue, hw, hm, ht])

theorem pulseOf_zero (c p : Nat) : pulseOf c 0 p = (none, false) := rfl

theorem pulseOf_whole {c w p : Nat} (hp : 0 < p) (h : p ≤ w) :
    pulseOf c w p = (some { start := 0, stop := p }, decide (p < w)) := by
  rw [pulseOf, if_neg (by omega), if_pos h]

/-- A pulse shorter than the frame runs from its centre less half its width, clipped to the frame (R12). -/
theorem pulseOf_part {c w p : Nat} (hw : 0 < w) (h : w < p) : pulseOf c w p =
    (some { start := c - w / 2, stop := min (c + w - w / 2) p }, decide (p < c + w - w / 2)) := by
  rw [pulseOf, if_neg (by omega), if_neg (by omega)]
  refine Prod.ext ?_ ?_
  · simp only [Option.some.injEq, Pulse.mk.injEq]; omega
  · simp only [decide_eq_decide]; omega

theorem exec_strobeOn {s : State} (hr : s.mdc.inReset = false) {e : Eye} {x : Pulse} (hs : s.ftb.strobe.at e = false)
    (hc : s.ftb.cut = false) (hp : s.ftb.pulse.at e = some x) (h1 : x.start ≤ s.ftb.fc) (h2 : s.ftb.fc < x.stop) :
    exec (.strobeOn e) s = .next (s.withFtb { s.ftb with strobe := s.ftb.strobe.put e true }) :=
  occur_due (due := State.strobeOnIsDue e) (effect := fun s => s.setStrobe e true) hr
    (by simp [State.strobeOnIsDue, Ftb.pulseOn, Pulse.covers, hs, hc, hp, h1, h2])

theorem exec_strobeOff {s : State} (hr : s.mdc.inReset = false) {e : Eye} (hs : s.ftb.strobe.at e = true)
    (hp : s.ftb.cut = true ∨ ∀ x, s.ftb.pulse.at e = some x → s.ftb.fc < x.start ∨ x.stop ≤ s.ftb.fc) :
    exec (.strobeOff e) s = .next (s.withFtb { s.ftb with strobe := s.ftb.strobe.put e false }) := by
  refine occur_due (due := State.strobeOffIsDue e) (effect := fun s => s.setStrobe e false) hr ?_
  have off : s.ftb.pulseOn e = false := by
    rcases hp with hc | hp
    · simp [Ftb.pulseOn, hc]
    · cases hx : s.ftb.pulse.at e with
      | none => simp [Ftb.pulseOn, hx]
      | some x =>
        have := hp x hx
        simp only [Ftb.pulseOn, hx, Option.any_some, Pulse.covers, Bool.and_eq_false_iff, decide_eq_false_iff_not]
        omega
  simp [State.strobeOffIsDue, hs, off]

theorem exec_syncPulseStart {s : State} (hr : s.mdc.inReset = false) (ha : s.ftb.syncActive = false)
    (hw : 0 < s.ftb.live.syncWidth) (ht : s.ftb.live.syncTick = s.ftb.fc) (hp : s.ftb.fc < s.ftb.live.p) :
    exec .syncPulseStart s = .next (s.withFtb { s.ftb with syncActive := true }) :=
  occur_due (due := State.syncStartIsDue) (effect := fun s => s.withFtb { s.ftb with syncActive := true }) hr
    (by simp [State.syncStartIsDue, Ftb.syncOn, ha, ht, hw, hp])

theorem exec_syncPulseEnd {s : State} (hr : s.mdc.inReset = false) (ha : s.ftb.syncActive = true)
    (h : s.ftb.fc < s.ftb.live.syncTick ∨ s.ftb.live.syncTick + s.ftb.live.syncWidth ≤ s.ftb.fc) :
    exec .syncPulseEnd s = .next (s.withFtb { s.ftb with syncActive := false }) := by
  refine occur_due (due := State.syncEndIsDue) (effect := fun s => s.withFtb { s.ftb with syncActive := false }) hr ?_
  have off : s.ftb.syncOn = false := by
    simp only [Ftb.syncOn, Bool.and_eq_false_iff, decide_eq_false_iff_not]
    omega
  simp [State.syncEndIsDue, ha, off]

end Sys2Proof.Machine

section Settled
open Sys2Proof Sys2Proof.Machine

/-- Settles O1: the first branch of `step`. -/
theorem stepRunsTheFrontCommand : Obligations.StepRunsTheFrontCommand := by
  intro c rest s h
  unfold step
  rw [h]

/-- Settles O4: what reaches no part held in reset is an event or a host command, and a host command is unheard with no
FREE entry. -/
theorem commandsThatCannotRun : Obligations.CommandsThatCannotRun := by
  refine ⟨fun c s hr ha => ?_, fun c s hc hr he hf => ?_⟩
  · by_cases hc : commandCode c = 0
    · obtain ⟨due, effect, h⟩ := exec_eq_occur hc ha
      rw [h]; exact occur_held hr
    · obtain ⟨effect, h⟩ := exec_eq_execute hc
      rw [h]; exact execute_held hr
  · obtain ⟨effect, h⟩ := exec_eq_execute hc
    rw [h]; exact execute_unheard hr he hf

/-- Settles O24: the two branches of `State.readClear`, and the subtraction at the end of the reply. -/
theorem readClearLosesNoCount : Obligations.ReadClearLosesNoCount := by
  refine ⟨fun tag s hr hs => ?_, fun tag s hr hs => ?_, fun s u d hr hs hc hd => ?_⟩
  · refine (execute_runs hr).trans (congrArg _ ?_)
    rw [State.readClear, if_pos (by simpa using hs)]
    exact replyTo_eq _ (.statusReadClear tag) _ _
  · refine (execute_runs hr).trans (congrArg _ ?_)
    rw [State.readClear, if_neg (by simp [hs]), makeReply_eq]
    simp [State.statusData, hs, boolByte, State.claiming]
  · refine ⟨_, occur_due (due := fun s => s.smp.sending.isSome) (effect := State.recordSent) hr (by simp [hs]), fun k => ?_, ?_⟩
    · simp [State.recordSent, hs, hc, Smp.subtract, hd, (arbitrate_smp _).1, Counters.get_minus]
    · simp [State.recordSent, hs, hc, Smp.subtract, hd, (arbitrate_smp _).2.1]

/-- Settles O26: each mark is raised by `exec_mark`, and its receiver takes one of its branches. -/
theorem marksReachTheirReceivers : Obligations.MarksReachTheirReceivers := by
  intro s hr hw
  refine ⟨fun hm ht => ?_, fun hm ht => ?_, fun hm ht hf => ?_⟩
  · rw [exec_mark (ch := .ec2) hr hw hm ht]
    exact congrArg _ (scanMark_eq _)
  · rw [exec_mark (ch := .ec3) hr hw hm ht]
    simp only [State.raiseMark, State.monitorMark, Ftb.raise, withFtb_mon]
    cases s.mon.round <;> rfl
  · rw [exec_mark (ch := .ec4) hr hw hm ht]
    exact congrArg _ (wakeMark_free hf)

/-- Settles O27: the branches of `pulseOf`, and each output where its switching is due. -/
theorem strobeAndSyncPulses : Obligations.StrobeAndSyncPulses := by
  refine ⟨fun c w p hc => ⟨?_, pulseOf_whole (by omega), ?_, ?_, ?_⟩, fun s hr => ⟨?_, ?_, ?_, ?_⟩⟩
  · rintro rfl; exact pulseOf_zero c p
  · intro hw h h1 h2
    have stop : min (c + w - w / 2) p = c - w / 2 + w := by omega
    have fits : ¬ p < c + w - w / 2 := by omega
    rw [pulseOf_part hw h, stop, decide_eq_false fits]
  · intro hw h h1
    have start : c - w / 2 = 0 := by omega
    have stop : min (c + w - w / 2) p = c + w - w / 2 := by omega
    have fits : ¬ p < c + w - w / 2 := by omega
    rw [pulseOf_part hw h, stop, start, decide_eq_false fits]
  · intro hw h h1 h2
    have stop : min (c + w - w / 2) p = p := by omega
    have clipped : p < c + w - w / 2 := by omega
    rw [pulseOf_part hw h, stop, decide_eq_true clipped]
  · exact fun e x => exec_strobeOn hr
  · exact fun e => exec_strobeOff hr
  · exact exec_syncPulseStart hr
  · exact exec_syncPulseEnd hr

end Settled
end

section
/-! The operand forms said as bounds, and the commands that set: the staging transaction and LANE (O28), the settings of
the Motion Unit (O43), AUDIO (O48), ALLOWANCE and LIMITS (O54). -/

namespace Sys2Proof.Machine

/-! ## Bounding fields -/

/-- A bounding field is brought to the nearer end of its range (R156). -/
theorem field_eq {lo hi : Nat} (h : lo ≤ hi) (v : Nat) : field lo hi v = max lo (min hi v) := by
  unfold field
  split
  · omega
  · split <;> omega

theorem field_zero (hi v : Nat) : field 0 hi v = min hi v := by rw [field_eq (Nat.zero_le _)]; omega

theorem field16_eq {lo hi : Nat} (h : lo ≤ hi) (v : Option W16) (old : Nat) :
    field16 lo hi v old = (v.map (fun x => max lo (min hi x.toNat))).getD old := by
  cases v with
  | none => rfl
  | some x => exact field_eq h _

theorem field16_zero (hi : Nat) (v : Option W16) (old : Nat) :
    field16 0 hi v old = (v.map (fun x => min hi x.toNat)).getD old := by
  cases v with
  | none => rfl
  | some x => exact field_zero hi _

theorem outside_zero (hi v : Nat) : outside 0 hi v = decide (hi < v) := by simp [outside]

theorem clamped16_eq (lo hi : Nat) (v : Option W16) :
    clamped16 lo hi v = v.any (fun x => x.toNat < lo || hi < x.toNat) := rfl

theorem clamped16_zero (hi : Nat) (v : Option W16) : clamped16 0 hi v = v.any (fun x => hi < x.toNat) := by
  simp [clamped16, outside_zero]

theorem tick16_eq (v : Option W16) (old : Nat) : tick16 v old = (v.map BitVec.toNat).getD old := by
  cases v <;> rfl

theorem switch_eq (v : Option Byte) (old : Bool) : switch v old = (v.map (fun x => decide (x = 1))).getD old := by
  cases v <;> rfl

theorem badSwitch_eq (v : Option Byte) : badSwitch v = v.any (fun x => x ≠ 0 && x ≠ 1) := by
  cases v <;> simp [badSwitch]

theorem polarityOf_eq (v : Option Byte) (old : Polarity) :
    polarityOf v old = (v.map (fun v => if v = 0 then Polarity.activeHigh else .activeLow)).getD old := by
  cases v <;> rfl

theorem clampTo_eq {lo hi : Int} (h : lo ≤ hi) (v : Int) : clampTo lo hi v = max lo (min hi v) := by
  unfold clampTo
  split
  · omega
  · split <;> omega

theorem signed16_eq {lo hi : Int} (h : lo ≤ hi) (v : Option W16) (old : Int) :
    signed16 lo hi v old = (v.map (fun x => max lo (min hi x.toInt))).getD old := by
  cases v with
  | none => rfl
  | some x => exact clampTo_eq h _

theorem dozing_iff (m : Mdc) : m.dozing = true ↔ m.device = .dozeEntry ∨ m.device = .doze ∨ m.device = .waking := by
  simp [Mdc.dozing, or_assoc]

/-! ## The staging transaction -/

/-- What R7 makes of a candidate for the staged set. -/
def State.Stages (s : State) (c : Instr) (bad clamped : Bool) (t : TimingSet) : Prop :=
  s.Runs c →
    (bad = true → exec c s = .next (s.answering c .badValue [])) ∧
    (bad = false → t.consistent = false → exec c s = .next (s.answering c .conflict [])) ∧
    (bad = false → t.consistent = true → exec c s =
      .next (((s.claiming c).withFtb { s.ftb with staged := t }).replying c (if clamped then .okClamped else .ok) []))

/-- A command whose effect is the staging transaction. -/
theorem stages_of_exec {s : State} {c : Instr} {bad clamped : Bool} {t : TimingSet}
    (h : s.Runs c → exec c s = .next ((s.claiming c).stage c (commandTag c) bad clamped t)) :
    s.Stages c bad clamped t := by
  intro hr
  refine ⟨fun hb => ?_, fun hb hc => ?_, fun hb hc => ?_⟩
  all_goals
    rw [h hr, State.stage, replyTo_eq]
    simp only [stageVerdict, okOr, hb, Bool.false_or, Bool.true_or]
  · rfl
  · simp only [hc]; rfl
  · simp only [hc]; rfl

theorem timingCandidate_eq (t : TimingSet) (f : TimingFields) : timingCandidate t f =
    { t with
      p := (f.p.map (fun v => max 4000 (min 20000 v.toNat))).getD t.p, s := (f.s.map BitVec.toNat).getD t.s,
      l := (f.l.map (fun v => max 100 (min 1250 v.toNat))).getD t.l,
      monTick := (f.monTick.map BitVec.toNat).getD t.monTick } := by
  rw [timingCandidate, field16_eq (by decide), field16_eq (by decide), tick16_eq, tick16_eq]

theorem syncCandidate_eq (t : TimingSet) (f : SyncFields) : syncCandidate t f =
    { t with
      syncPolarity := (f.polarity.map (fun v => if v = 0 then Polarity.activeHigh else .activeLow)).getD t.syncPolarity,
      syncTick := (f.tick.map BitVec.toNat).getD t.syncTick,
      syncWidth := (f.width.map (fun v => min 20000 v.toNat)).getD t.syncWidth } := by
  rw [syncCandidate, polarityOf_eq, tick16_eq, field16_zero]

theorem strobeCandidate_eq (t : TimingSet) (f : StrobeFields) : strobeCandidate t f =
    { t with
      cL := (f.cL.map BitVec.toNat).getD t.cL, cR := (f.cR.map BitVec.toNat).getD t.cR,
      wReq := (f.wReq.map (fun v => min 20000 v.toNat)).getD t.wReq,
      iPk := (f.iPk.map (fun v => min 1500 v.toNat)).getD t.iPk } := by
  rw [strobeCandidate, tick16_eq, tick16_eq, field16_zero, field16_zero]

theorem shiftCandidate_eq (t : TimingSet) (f : ShiftFields) : shiftCandidate t f =
    { t with
      shiftEnable := (f.enable.map (fun v => decide (v = 1))).getD t.shiftEnable,
      ppdX := (f.ppdX.map (fun v => min 16383 v.toNat)).getD t.ppdX,
      ppdY := (f.ppdY.map (fun v => min 16383 v.toNat)).getD t.ppdY,
      maxX := (f.maxX.map (fun v => min 255 v.toNat)).getD t.maxX,
      maxY := (f.maxY.map (fun v => min 120 v.toNat)).getD t.maxY,
      hMax := (f.hMax.map (fun v => max 1000 (min 50000 v.toNat))).getD t.hMax } := by
  rw [shiftCandidate, switch_eq, field16_zero, field16_zero, field16_zero, field16_zero, field16_eq (by decide)]

theorem shiftClamps_eq (f : ShiftFields) : shiftClamps f =
    (f.ppdX.any (fun v => 16383 < v.toNat) || f.ppdY.any (fun v => 16383 < v.toNat) ||
      f.maxX.any (fun v => 255 < v.toNat) || f.maxY.any (fun v => 120 < v.toNat) ||
      f.hMax.any (fun v => v.toNat < 1000 || 50000 < v.toNat)) := by
  rw [shiftClamps, clamped16_zero, clamped16_zero, clamped16_zero, clamped16_zero, clamped16_eq]

theorem exec_laneSet {s : State} {tag : Byte} {f : LaneFields} (h : s.Runs (.laneSet tag f)) :
    exec (.laneSet tag f) s = .next ((s.claiming (.laneSet tag f)).setLane tag f) :=
  execute_runs (effect := fun s => s.setLane tag f) h

theorem setLane_bad {s : State} {tag : Byte} {f : LaneFields} (hb : (f.stray || badSwitch f.policy) = true) :
    s.setLane tag f = s.replying (.laneSet tag f) .badValue [] := by
  rw [State.setLane, State.stage]
  refine (replyTo_eq _ (.laneSet tag f) _ _).trans ?_
  simp only [hb, Bool.true_or, if_true, stageVerdict]

theorem setLane_conflict {s : State} {tag : Byte} {f : LaneFields} (hb : (f.stray || badSwitch f.policy) = false)
    (hc : ({ s.ftb.staged with w := tick16 f.w s.ftb.staged.w } : TimingSet).consistent = false) :
    s.setLane tag f = s.replying (.laneSet tag f) .conflict [] := by
  rw [State.setLane, State.stage]
  refine (replyTo_eq _ (.laneSet tag f) _ _).trans ?_
  simp only [hb, hc, Bool.not_false, Bool.or_true, if_true, stageVerdict]
  rfl

theorem setLane_good {s : State} {tag : Byte} {f : LaneFields} (hb : (f.stray || badSwitch f.policy) = false)
    (hc : ({ s.ftb.staged with w := tick16 f.w s.ftb.staged.w } : TimingSet).consistent = true) :
    s.setLane tag f = ((s.withPlr (s.plr.set f)).withFtb
      { s.ftb with staged := { s.ftb.staged with w := tick16 f.w s.ftb.staged.w } }).replying (.laneSet tag f)
        (okOr (laneClamps f)) [] := by
  rw [State.setLane, State.stage]
  refine (replyTo_eq _ (.laneSet tag f) _ _).trans ?_
  simp only [hb, hc, Bool.not_true, Bool.or_false, stageVerdict]
  rfl

theorem plr_set_eq (p : Plr) (f : LaneFields) : p.set f =
    { p with
      policy := (f.policy.map (fun v => decide (v = 1))).getD p.policy,
      dReq := (f.dReq.map (fun v => min 2000 v.toNat)).getD p.dReq,
      dMin := (f.dMin.map (fun v => max 200 (min 5000 v.toNat))).getD p.dMin,
      tWait := (f.tWait.map (fun v => max 10 (min 500 v.toNat))).getD p.tWait } := by
  rw [Plr.set, switch_eq, field16_zero, field16_eq (by decide), field16_eq (by decide)]

theorem laneClamps_eq (f : LaneFields) : laneClamps f =
    (f.dReq.any (fun v => 2000 < v.toNat) || f.dMin.any (fun v => v.toNat < 200 || 5000 < v.toNat) ||
      f.tWait.any (fun v => v.toNat < 10 || 500 < v.toNat)) := by
  rw [laneClamps, clamped16_zero, clamped16_eq, clamped16_eq]

/-! ## The settings of the other units -/

/-- The ramp a stop orders goes on from the ramp in progress, or from the last frame played (R103). -/
theorem startRamp_eq (a : Aud) : a.startRamp =
    { a with ramp := some (a.ramp.getD { base := a.lastFrame, step := 1 }) } := by
  unfold Aud.startRamp
  split
  · next r hr => rw [hr, Option.getD_some, ← hr]
  · next hr => rw [hr]; rfl

theorem limited_eq (g : Gov) (f : LimitsFields) : g.limited f =
    { g with
      rs := (f.rs.map (fun x => max 0 (min 2000 x.toNat))).getD g.rs,
      vuv := (f.vuv.map (fun x => max 6500 (min 14000 x.toNat))).getD g.vuv,
      wFloor := (f.wFloor.map (fun x => max 0 (min 2000 x.toNat))).getD g.wFloor,
      ts := (f.ts.map (fun x => max 0 (min 1000 x.toNat))).getD g.ts,
      tLim := (f.tLim.map (fun x => max 0 (min 1000 x.toNat))).getD g.tLim } := by
  rw [Gov.limited, field16_eq (by decide), field16_eq (by decide), field16_eq (by decide), field16_eq (by decide),
    field16_eq (by decide)]

theorem recentreOffsets_eq (acc : Angles W32) (f : RecentreFields) : recentreOffsets acc f =
    if f.mode = 0 then { yaw := -acc.yaw, pitch := -acc.pitch, roll := -acc.roll }
    else if f.mode = 1 then { yaw := f.yaw - acc.yaw, pitch := f.pitch - acc.pitch, roll := f.roll - acc.roll }
    else { yaw := f.yaw, pitch := f.pitch, roll := f.roll } := by
  simp [recentreOffsets]

/-- The codes of a selecting byte, as a bound. -/
theorem byte_le_two_iff (b : Byte) : (b = 0 || b = 1 || b = 2) = true ↔ b.toNat ≤ 2 := by
  simp only [Bool.or_eq_true, decide_eq_true_eq]
  bv_omega

theorem badFilter_iff (f : WakeFilterFields) : badFilter f = true ↔
    3 < f.index.toNat ∨ 1 < f.enable.toNat ∨ 63 < f.axes.toNat ∨ (f.enable = 1 ∧ f.axes = 0) := by
  have enable : (!(f.enable = 0 || f.enable = 1)) = true ↔ 1 < f.enable.toNat := by
    simp only [Bool.not_eq_true', Bool.or_eq_false_iff, decide_eq_false_iff_not]
    bv_omega
  have axes : strayAxes f.axes = true ↔ 63 < f.axes.toNat := by
    rw [strayAxes]
    generalize f.axes = a
    revert a; decide
  rw [badFilter, Bool.or_eq_true, Bool.or_eq_true, Bool.or_eq_true, decide_eq_true_eq, enable, axes, Bool.and_eq_true,
    decide_eq_true_eq, decide_eq_true_eq]
  tauto

end Sys2Proof.Machine

section Settled
open Sys2Proof Sys2Proof.Machine

/-- Settles O28: every one of the commands is `State.stage` of its candidate, and LANE SET writes its other fields
exactly where the candidate is staged. -/
theorem stagingCommandsStageOrRefuse : Obligations.StagingCommandsStageOrRefuse := by
  refine ⟨fun s tag => ⟨fun f => ?_, fun f => ?_, fun f => ?_, fun f => ?_, fun hold => ?_⟩, fun s tag f => ?_⟩
  · rw [← timingCandidate_eq]
    exact stages_of_exec fun h => execute_runs (effect := fun s => s.stage (.timingSet tag f) tag f.stray
      (clamped16 4000 20000 f.p || clamped16 100 1250 f.l) (timingCandidate s.ftb.staged f)) h
  · rw [← syncCandidate_eq, ← badSwitch_eq, ← clamped16_zero]
    exact stages_of_exec fun h => execute_runs (effect := fun s => s.stage (.sync tag f) tag
      (f.stray || badSwitch f.polarity) (clamped16 0 20000 f.width) (syncCandidate s.ftb.staged f)) h
  · rw [← strobeCandidate_eq, ← clamped16_zero, ← clamped16_zero]
    exact stages_of_exec fun h => execute_runs (effect := fun s => s.stage (.strobeSet tag f) tag f.stray
      (clamped16 0 20000 f.wReq || clamped16 0 1500 f.iPk) (strobeCandidate s.ftb.staged f)) h
  · rw [← shiftCandidate_eq, ← badSwitch_eq, ← shiftClamps_eq]
    exact stages_of_exec fun h => execute_runs (effect := fun s => s.stage (.shiftSet tag f) tag
      (f.stray || badSwitch f.enable) (shiftClamps f) (shiftCandidate s.ftb.staged f)) h
  · rw [← field_zero, ← outside_zero]
    exact stages_of_exec fun h => execute_runs (effect := fun s => s.stage (.holdSet tag hold) tag false
      (outside 0 15 hold.toNat) { s.ftb.staged with hold := field 0 15 hold.toNat }) h
  · refine ⟨fun hr hb => ?_, fun hr hb hc => ?_, fun hr hb hc => ?_, fun hr => ?_⟩
    · rw [exec_laneSet hr]
      exact congrArg _ (setLane_bad (by rwa [badSwitch_eq]))
    · rw [← tick16_eq] at hc
      rw [exec_laneSet hr]
      exact congrArg _ (setLane_conflict (by rwa [badSwitch_eq]) hc)
    · rw [← tick16_eq] at hc
      rw [exec_laneSet hr, ← tick16_eq, ← plr_set_eq, ← laneClamps_eq]
      exact congrArg _ (setLane_good (by rwa [badSwitch_eq]) hc)
    · refine (execute_reply (c := .laneGet tag) (data := State.laneData) hr).trans ?_
      rw [State.laneData, packBits_2]
      rfl

/-- Settles O43: the branches of the three commands, with their bounds said as minima and maxima. -/
theorem motionSettingsAreWritten : Obligations.MotionSettingsAreWritten := by
  refine fun s tag => ⟨fun f hr => ?_, fun f hr => ?_, fun f hr => ?_⟩
  · rw [show exec (.biasSet tag f) s = _ from execute_runs (effect := fun s => s.setBias tag f) hr, State.setBias]
    refine ⟨fun hc => ?_, fun hc hs => ?_, fun hc hs => ?_⟩
    · rw [if_pos (show (s.claiming _).mot.cal.isSome = true from hc)]
      exact congrArg _ (replyTo_eq _ (.biasSet tag f) _ _)
    · rw [if_neg (by simp [hc]), if_pos hs]
      exact congrArg _ (replyTo_eq _ (.biasSet tag f) _ _)
    · rw [if_neg (by simp [hc]), if_neg (by simp [hs])]
      refine congrArg _ ((replyTo_eq _ (.biasSet tag f) _ _).trans ?_)
      rw [signed16_eq (by decide), signed16_eq (by decide), signed16_eq (by decide)]
      rfl
  · rw [show exec (.recentre tag f) s = _ from execute_runs (effect := fun s => s.recentre tag f) hr, State.recentre]
    intro o add
    refine ⟨fun hm => ?_, fun hm => ?_⟩
    · rw [if_pos (by rw [Bool.not_eq_true', ← Bool.not_eq_true, byte_le_two_iff]; omega)]
      exact congrArg _ (replyTo_eq _ (.recentre tag f) _ _)
    · rw [if_neg (by rw [Bool.not_eq_true, Bool.not_eq_false', byte_le_two_iff]; exact hm)]
      refine congrArg _ ((replyTo_eq _ (.recentre tag f) _ _).trans ?_)
      rw [recentreOffsets_eq]
      rfl
  · rw [show exec (.wakefilterSet tag f) s = _ from execute_runs (effect := fun s => s.setFilter tag f) hr,
      State.setFilter]
    refine ⟨fun hb => ?_, fun hb => ?_⟩
    · rw [if_pos ((badFilter_iff f).2 hb)]
      exact congrArg _ (replyTo_eq _ (.wakefilterSet tag f) _ _)
    · rw [if_neg (mt (badFilter_iff f).1 hb)]
      refine congrArg _ ((replyTo_eq _ (.wakefilterSet tag f) _ _).trans ?_)
      rw [writtenFilter, field_eq (by decide), field_eq (by decide)]
      rw [outside, outside, ← Bool.or_assoc]
      rfl

/-- Settles O48: the branches of the five commands. -/
theorem audioCommandsSetStartAndStop : Obligations.AudioCommandsSetStartAndStop := by
  refine fun s tag => ⟨fun f hr => ?_, fun hr => ?_, fun hr => ?_, fun hr => ?_, fun hr => ?_⟩
  · rw [show exec (.audioSet tag f) s = _ from execute_runs (effect := fun s => s.setAudio tag f) hr, State.setAudio]
    refine ⟨fun hs => ?_, fun hs => ?_⟩
    · rw [if_pos hs]
      exact congrArg _ (replyTo_eq _ (.audioSet tag f) _ _)
    · rw [if_neg (by simp [hs])]
      refine congrArg _ ((replyTo_eq _ (.audioSet tag f) _ _).trans ?_)
      rw [Aud.set, field16_eq (by decide), field16_eq (by decide), field16_eq (by decide), field16_eq (by decide)]
      rfl
  · rw [show exec (.audioPlayStart tag) s = _ from execute_runs (effect := fun s =>
      if s.mdc.dozing then s.replyTo 0x41 tag .wrongState []
      else (s.withAud s.aud.playStart).replyTo 0x41 tag .ok []) hr]
    refine ⟨fun hd => ?_, fun hd hp => ?_, fun hd hp => ?_⟩
    · rw [if_pos ((dozing_iff (s.claiming _).mdc).2 hd)]
      exact congrArg _ (replyTo_eq _ (.audioPlayStart tag) _ _)
    · rw [if_neg (mt (dozing_iff (s.claiming _).mdc).1 hd)]
      refine congrArg _ ((replyTo_eq _ (.audioPlayStart tag) _ _).trans ?_)
      rw [claiming_aud, Aud.playStart, if_pos hp]
    · rw [if_neg (mt (dozing_iff (s.claiming _).mdc).1 hd)]
      refine congrArg _ ((replyTo_eq _ (.audioPlayStart tag) _ _).trans ?_)
      rw [claiming_aud, Aud.playStart, if_neg hp]
      rfl
  · rw [show exec (.audioPlayStop tag) s = _ from execute_runs (effect := fun s =>
      (s.withAud s.aud.playStop).replyTo 0x42 tag .ok []) hr]
    refine ⟨fun hp => ?_, fun hp => ?_⟩
    · refine congrArg _ ((replyTo_eq _ (.audioPlayStop tag) _ _).trans ?_)
      rw [claiming_aud, Aud.playStop, if_pos hp]
      rfl
    · refine congrArg _ ((replyTo_eq _ (.audioPlayStop tag) _ _).trans ?_)
      rw [claiming_aud, Aud.playStop, if_neg hp, startRamp_eq]
  · rw [show exec (.micStart tag) s = _ from execute_runs (effect := fun s =>
      if s.mdc.dozing then s.replyTo 0x43 tag .wrongState []
      else (s.withAud { s.aud with micRunning := true }).replyTo 0x43 tag .ok []) hr]
    refine ⟨fun hd => ?_, fun hd => ?_⟩
    · rw [if_pos ((dozing_iff (s.claiming _).mdc).2 hd)]
      exact congrArg _ (replyTo_eq _ (.micStart tag) _ _)
    · rw [if_neg (mt (dozing_iff (s.claiming _).mdc).1 hd)]
      exact congrArg _ (replyTo_eq _ (.micStart tag) _ _)
  · exact (execute_runs (effect := fun s => (s.withAud s.aud.micStop).replyTo 0x44 tag .ok []) hr).trans
      (congrArg _ (replyTo_eq _ (.micStop tag) _ _))

/-- Settles O54: the branches of the two SETs, and the data of the two GETs. -/
theorem governorSettingsAndReads : Obligations.GovernorSettingsAndReads := by
  refine fun s tag => ⟨fun a hr => ?_, fun f hr => ?_, fun hr => ?_, fun hr => ?_⟩
  · rw [show exec (.allowanceSet tag a) s = _ from execute_runs (effect := fun s => s.setAllowance tag a) hr,
      State.setAllowance]
    refine congrArg _ ((replyTo_eq _ (.allowanceSet tag a) _ _).trans ?_)
    rw [field_zero, outside_zero]
    simp only [okOr, decide_eq_true_eq]
    rfl
  · rw [show exec (.limitsSet tag f) s = _ from execute_runs (effect := fun s => s.setLimits tag f) hr,
      State.setLimits, claiming_gov, limited_eq]
    refine ⟨fun hs => ?_, fun hs hl => ?_, fun hs hl => ?_⟩
    · rw [if_pos hs]
      exact congrArg _ (replyTo_eq _ (.limitsSet tag f) _ _)
    · rw [if_neg (by simp [hs]), if_pos hl]
      exact congrArg _ (replyTo_eq _ (.limitsSet tag f) _ _)
    · rw [if_neg (by simp [hs]), if_neg (Nat.not_le_of_lt hl)]
      exact congrArg _ (replyTo_eq _ (.limitsSet tag f) _ _)
  · exact execute_reply (c := .limitsGet tag) (data := fun s => s.gov.limitBytes) hr
  · refine (execute_reply (c := .allowanceGet tag) (data := fun s => s.gov.allowanceData) hr).trans ?_
    rw [claiming_gov, Gov.allowanceData, Gov.limitBytes]
    cases s.gov.evaluation <;> rfl

end Settled
end

section
/-! A recentre leaves every shift alone (O37), integration loses no motion (O41), and the Power Governor: its rules (O52)
and its budget (O53). -/

namespace Sys2Proof.Machine

/-! ## Shifts and recentres -/

/-- An entry of the ring after a recentre. -/
def RingEntry.moved (o : Angles W32) (e : RingEntry) : RingEntry := { e with acc := e.acc.plus o }

theorem recentre_ring (m : Mot) (o : Angles W32) : (m.recentre o).ring = m.ring.map (RingEntry.moved o) := rfl

/-- Offsets added to both angles leave their difference (R84, R85). -/
theorem angleDelta_add (a b o : W32) (q : Int) : angleDelta (a + o) (b + o) q = angleDelta a b q := by
  have same : a + o + BitVec.ofInt 32 q - (b + o) = a + BitVec.ofInt 32 q - b := by bv_omega
  rw [angleDelta, same]; rfl

theorem shiftBetween_moved (t : TimingSet) (target : W32) (newest ref : RingEntry) (d : Nat) (o : Angles W32) :
    shiftBetween t target (newest.moved o) (ref.moved o) d = shiftBetween t target newest ref d := by
  simp only [shiftBetween, RingEntry.moved, Angles.plus, angleDelta_add]

/-! ## Integration -/

/-- One sample from the floor and the rest of a sum leaves the floor and the rest of the next sum (R64). -/
theorem integrateAxis_sum (total : Int) (rate : W16) (dt : Int) :
    integrateAxis (BitVec.ofInt 32 (total / 1000000)) (total % 1000000).toNat rate dt =
      (BitVec.ofInt 32 ((total + rate.toInt * dt * 4096) / 1000000),
        ((total + rate.toInt * dt * 4096) % 1000000).toNat) := by
  have rest : (((total % 1000000).toNat : Nat) : Int) = total % 1000000 := Int.toNat_of_nonneg (by omega)
  unfold integrateAxis
  dsimp only
  rw [rest, ← BitVec.ofInt_add]
  generalize rate.toInt * dt * 4096 = x
  refine Prod.ext (congrArg (BitVec.ofInt 32) ?_) (congrArg Int.toNat ?_)
  · omega
  · omega

theorem foldl_integrateAxis (samples : List (W16 × Int)) (total : Int) :
    samples.foldl (fun ar x => integrateAxis ar.1 ar.2 x.1 x.2)
        (BitVec.ofInt 32 (total / 1000000), (total % 1000000).toNat) =
      (BitVec.ofInt 32 ((total + (samples.map (fun x => x.1.toInt * x.2 * 4096)).sum) / 1000000),
        ((total + (samples.map (fun x => x.1.toInt * x.2 * 4096)).sum) % 1000000).toNat) := by
  induction samples generalizing total with
  | nil => simp
  | cons x xs ih =>
    rw [List.foldl_cons, integrateAxis_sum, ih, List.map_cons, List.sum_cons, add_assoc]

/-! ## The Power Governor -/

/-- The width limit is at most P, and spends no more than the budget (R126). -/
theorem widthLimit_le (t : TimingSet) (vin : Nat) (budget : Int) : widthLimit t vin budget ≤ t.p := by
  unfold widthLimit
  split
  · exact Nat.le_refl _
  · split
    · exact Nat.zero_le _
    · exact Nat.min_le_left _ _

theorem spends_le_budget {t : TimingSet} {w vin : Nat} {budget : Int} (hv : 0 < vin)
    (h : w ≤ widthLimit t vin budget) :
    ((2 * vin * t.iPk * w / (1000 * t.p) : Nat) : Int) ≤ max 0 budget := by
  by_cases hi : t.iPk = 0
  · simp [hi]
  · rw [widthLimit, if_neg hi] at h
    split at h
    · obtain rfl : w = 0 := by omega
      simp
    · have quotient : w * (2 * vin * t.iPk) ≤ budget.toNat * 1000 * t.p := by
        have := h.trans (Nat.min_le_right _ _)
        rw [widthQuotient, if_neg (by omega)] at this
        exact (Nat.le_div_iff_mul_le (by positivity)).1 this
      have spent : 2 * vin * t.iPk * w / (1000 * t.p) ≤ budget.toNat := by
        refine Nat.div_le_of_le_mul ?_
        calc 2 * vin * t.iPk * w = w * (2 * vin * t.iPk) := Nat.mul_comm ..
          _ ≤ budget.toNat * 1000 * t.p := quotient
          _ = 1000 * t.p * budget.toNat := by ring
      omega

theorem liveWidth_eq (x : Scn) : x.liveWidth = match x.frame with
    | none => 0
    | some f => f.wEff := by
  unfold Scn.liveWidth; cases x.frame <;> rfl

theorem gainCap_eq (g : GovState) : g.gainCap = if g = .shedding then 128 else 256 := by cases g <;> rfl

theorem rampOrder_eq (a : Aud) : a.rampOrder =
    { a with
      powerFailHold := true,
      ramp := if a.playout = .stopped then a.ramp else some (a.ramp.getD { base := a.lastFrame, step := 1 }) } := by
  unfold Aud.rampOrder
  split
  · rfl
  · rw [startRamp_eq]

theorem release_eq (a : Aud) : a.release =
    { a with
      powerFailHold := false, ramp := none,
      lastFrame := if a.ramp = none then a.lastFrame else { l := 0, r := 0 } } := by
  unfold Aud.release
  split
  · next h => rw [if_pos h, ← h]
  · next h => rw [if_neg (by simp [h])]; rfl

theorem derated_between {g : Gov} {skin : Int} (h : (g.ts : Int) < skin) (h' : skin < g.tLim) :
    (g.derated skin : Int) = (g.allowance : Int) * (g.tLim - skin) / ((g.tLim : Int) - g.ts) := by
  rw [Gov.derated, if_neg (by omega), if_neg (by omega)]
  exact Int.toNat_of_nonneg (Int.ediv_nonneg (Int.mul_nonneg (by omega) (by omega)) (by omega))

theorem widthLimit_between {t : TimingSet} {vin : Nat} {budget : Int} (hv : 0 < vin) (hi : 0 < t.iPk)
    (hb : 0 < budget) :
    (widthLimit t vin budget : Int) = min (t.p : Int) (budget * 1000 * t.p / (2 * vin * t.iPk)) := by
  rw [widthLimit, if_neg (by omega), if_neg (by omega), widthQuotient, if_neg (by omega)]
  push_cast
  rw [Int.toNat_of_nonneg (by omega)]

/-- A full evaluation outside POWER_FAIL that leaves the state. -/
theorem evaluateFully_same {s : State} {vin iin : Nat} {skin : Int} {tbc : W32}
    (h : s.gov.decide (s.gov.evaluate s.ftb.live s.scn.liveWidth vin iin skin tbc).wLimit s.ftb.live.wReq = s.gov.state) :
    s.evaluateFully vin iin skin tbc = s.withGov { s.gov with
      wLimit := (s.gov.evaluate s.ftb.live s.scn.liveWidth vin iin skin tbc).wLimit,
      evaluation := some (s.gov.evaluate s.ftb.live s.scn.liveWidth vin iin skin tbc) } := by
  rw [State.evaluateFully, if_pos h]
  rw [h]

/-- A full evaluation that changes the state. -/
theorem evaluateFully_other {s : State} {vin iin : Nat} {skin : Int} {tbc : W32}
    (h : s.gov.decide (s.gov.evaluate s.ftb.live s.scn.liveWidth vin iin skin tbc).wLimit s.ftb.live.wReq ≠ s.gov.state) :
    s.evaluateFully vin iin skin tbc =
      (let v := s.gov.evaluate s.ftb.live s.scn.liveWidth vin iin skin tbc
      let new := s.gov.decide v.wLimit s.ftb.live.wReq
      let t := s.withGov { s.gov with wLimit := v.wLimit, evaluation := some v, state := new, cap := new.gainCap }
      (if s.gov.state = .powerFail then t.withAud s.aud.release else t).notify
        (.governor new s.gov.state v.wLimit tbc)) := by
  rw [State.evaluateFully, if_neg h]
  rfl

end Sys2Proof.Machine

section Settled
open Sys2Proof Sys2Proof.Machine

/-- Settles O37: the ring is moved as a whole, and a shift sees differences alone. -/
theorem recentringLeavesEveryShiftAlone : Obligations.RecentringLeavesEveryShiftAlone := by
  intro m o t ref target
  have state : (m.recentre o).state = m.state := rfl
  have seq (e : RingEntry) : (e.moved o).seq = e.seq := rfl
  unfold Mot.shift
  rw [recentre_ring, List.getLast?_map, List.length_map, state]
  cases m.ring.getLast? with
  | none => rfl
  | some newest =>
    simp only [Option.map_some, List.getElem?_map, seq]
    by_cases hd : (newest.seq - ref).toNat < m.ring.length
    · simp only [hd, if_true]
      cases m.ring[m.ring.length - 1 - (newest.seq - ref).toNat]? with
      | none => rfl
      | some entry => simp only [Option.map_some, shiftBetween_moved]
    · simp only [hd, if_false]

/-- Settles O41: the sum so far is carried by the accumulator and the residue. -/
theorem integrationLosesNoMotion : Obligations.IntegrationLosesNoMotion := by
  intro samples
  simpa using foldl_integrateAxis samples 0

/-- Settles O53: the width limit is a quotient of the budget. -/
theorem theWidthLimitKeepsTheBudget : Obligations.TheWidthLimitKeepsTheBudget :=
  fun _ t _ _ vin _ _ _ hv _ h => ⟨widthLimit_le t vin _, spends_le_budget hv h⟩

/-- Settles O52: the branches of the undervoltage test, of the six steps, of the decision and of the recovery. -/
theorem theGovernorFollowsItsRules : Obligations.TheGovernorFollowsItsRules := by
  refine ⟨fun s vin tbc => ⟨fun h => ?_, fun h hf => ?_, fun h hf => ?_⟩, fun g t wLive vin iin skin tbc hts hv hp => ?_,
    fun g wLimit wReq => ?_, fun s vin iin skin tbc => ?_⟩
  · rw [State.undervoltage, if_neg (Nat.not_lt_of_le h)]
  · rw [State.undervoltage, if_pos h, if_pos hf]
  · rw [State.undervoltage, if_pos h, if_neg hf, State.enterPowerFail, rampOrder_eq]
    rfl
  · refine ⟨fun h => ?_, fun h => ?_, derated_between, rfl, rfl, ?_, rfl, fun h => ?_, fun h hb => ?_,
      widthLimit_between hv, rfl, rfl, rfl, rfl, rfl⟩
    · exact if_pos h
    · exact (if_neg (by omega)).trans (if_pos h)
    · simp only [Gov.evaluate]; omega
    · exact if_pos h
    · exact (if_neg (by omega)).trans (if_pos hb)
  · refine ⟨fun h => if_pos h, fun h hw => ?_, fun h hw hf => ?_, fun h hw hf => ?_⟩
    all_goals rw [Gov.decide, if_neg h]
    · exact if_pos hw
    · rw [if_neg (by omega), if_pos hf]
    · rw [if_neg (by omega), if_neg (by omega)]
  · intro wLive v new g
    have live : s.scn.liveWidth = wLive := liveWidth_eq s.scn
    clear_value wLive
    subst live
    refine ⟨fun hf h => ?_, fun hf h => ?_, fun hf h => ?_, fun hf h hn => ?_, fun hf h hn => ?_⟩
    · rw [State.evaluate, if_neg hf]
      exact evaluateFully_same h
    · rw [State.evaluate, if_neg hf, evaluateFully_other h]
      simp only [hf, if_false, gainCap_eq]
      rfl
    · rw [State.evaluate, if_pos hf, Gov.recoveryAfter, if_neg (show ¬ s.gov.vuv + 500 ≤ vin by omega), if_neg (by omega)]
    · rw [State.evaluate, if_pos hf, Gov.recoveryAfter, if_pos h, if_neg (by omega)]
    · rw [State.evaluate, if_pos hf, Gov.recoveryAfter, if_pos h, if_pos (by omega)]
      have leaves : (s.withGov { s.gov with recovery := 0 }).gov.state = .powerFail := hf
      refine (evaluateFully_other fun hsame => decide_ne_powerFail _ _ _ (hsame.trans leaves)).trans ?_
      simp only [leaves, if_true, gainCap_eq, release_eq]
      rfl

end Settled
end

section
/-! The picture lane by its signal and its idle rules (O31), the output periods (O46) and the microphone samples
(O47). -/

namespace Sys2Proof.Machine

/-! ## The picture lane -/

/-- An ACTIVE lane is kept or taken to IDLE by the hold, with no answer awaited (R137, R142). -/
theorem laneActive_free {s : State} (h : s.LaneFree) : s.laneActive =
    s.withPlr { s.plr with
      lane := if s.plr.hold = true ∧ s.plr.burst = .none then .idle else .active,
      trainLeft := 0, waitLeft := 0, lastEnd := some s.ftb.tbc } := by
  rw [State.laneActive, laneAnswer_free (s := s.withPlr (Plr.underHold _)) h, Plr.underHold]
  by_cases hold : s.plr.hold = true ∧ s.plr.burst = .none
  · rw [if_pos (by simp [hold]), if_pos hold]
  · rw [if_neg (by simpa using hold), if_neg hold]

theorem exec_signalDetected {s : State} (hr : s.mdc.inReset = false) : exec .signalDetected s =
    .next (s.withPlr (if s.plr.lane = .down then { s.plr with signal := true, lane := .training, trainLeft := 2000 }
      else { s.plr with signal := true })) := by
  have arm : exec .signalDetected s = execSignalDetected s := rfl
  rw [arm, execSignalDetected, hr]
  by_cases hd : s.plr.lane = .down
  · rw [if_pos (by simpa using hd), if_pos hd]; rfl
  · rw [if_neg (by simpa using hd), if_neg hd]

theorem exec_trainingLock {s : State} (hr : s.mdc.inReset = false) (hl : s.plr.lane = .training) :
    exec .trainingLock s = .next s.laneActive :=
  occur_due (due := fun s => s.plr.lane = .training) (effect := State.laneActive) hr (by simpa using hl)

theorem exec_wakingEnd {s : State} (hr : s.mdc.inReset = false) (hl : s.plr.lane = .waking) (hw : s.plr.waitLeft = 0) :
    exec .wakingEnd s = .next s.laneActive :=
  occur_due (due := State.wakingEndIsDue) (effect := State.laneActive) hr (by simp [State.wakingEndIsDue, hl, hw])

theorem abandonBurst_mdc (s : State) : s.abandonBurst.mdc = s.mdc := by
  unfold State.abandonBurst; split <;> rfl

theorem exec_signalLoss {s : State} (hr : s.mdc.inReset = false) (hf : s.LaneFree) : exec .signalLoss s =
    .next ((s.withPlr { s.plr with signal := false }).abandonBurst.withPlr
      { s.plr with signal := false, lane := .down, burst := .none, trainLeft := 0, waitLeft := 0 }) := by
  have arm : exec .signalLoss s = execSignalLoss s := rfl
  rw [arm, execSignalLoss, hr]
  simp only [Bool.false_eq_true, if_false]
  rw [laneAnswer_free (s := State.withPlr _ _) (by rw [State.LaneFree, withPlr_mdc, abandonBurst_mdc]; exact hf)]
  unfold State.abandonBurst
  cases s.plr.burst <;> rfl

/-- The time to the next EC4 mark, with no wrap due (R138). -/
theorem toWakeMark_eq {f : Ftb} (hw : f.wrapDue = false) (hp : f.fc < f.live.p) :
    f.toWakeMark = (f.live.w + (f.live.p - f.fc)) % f.live.p := by
  simp [Ftb.toWakeMark, Ftb.pos, hw, Nat.mod_eq_of_lt hp]

/-! ## Output periods -/

theorem exec_outputPeriod {s : State} (h : s.aud.periodDue = true) : exec .outputPeriod s = .next s.outputPeriod := by
  have arm : exec .outputPeriod s = execOutputPeriod s := rfl
  rw [arm, execOutputPeriod, if_pos h]

/-- The Audio Unit once an output period is over that leaves it as `a` with a source frame (R96, R105, R109). -/
def State.played (s : State) (a : Aud) (frame : Stereo) : Aud :=
  { a with
    periodDue := false, micPhase := (s.aud.micPhase + 1) % 3, micDue := decide ((s.aud.micPhase + 1) % 3 = 0),
    cap := s.gov.cap,
    output :=
      { l := BitVec.ofInt 16 (frame.l.toInt * (min s.aud.gainL s.gov.cap : Nat) / 256),
        r := BitVec.ofInt 16 (frame.r.toInt * (min s.aud.gainR s.gov.cap : Nat) / 256) } }

/-- An output period by what the table of R96 gives. -/
theorem outputPeriod_eq {s : State} {a : Aud} {frame : Stereo} {dry : Bool} (h : s.aud.sourcePeriod = (a, frame, dry))
    (hp : a.micPhase = s.aud.micPhase) (hl : a.gainL = s.aud.gainL) (hr : a.gainR = s.aud.gainR) :
    s.outputPeriod = if dry = true then (s.withAud (s.played a frame)).note .underrun
      else s.withAud (s.played a frame) := by
  rw [State.outputPeriod, h]
  simp only [Aud.nextFrame, State.played, outputSample, hp, hl, hr]

theorem countsUnderrun_iff (a : Aud) : a.countsUnderrun = true ↔
    a.playout = .priming ∧ a.underrun = true ∧ a.powerFailHold = false := by
  simp [Aud.countsUnderrun, and_assoc]

/-- A running ramp gives the source frame (R103). -/
theorem sourcePeriod_ramp {a : Aud} {r : Ramp} (h : a.ramp = some r) :
    a.sourcePeriod = ((a.rampPeriod r).1, r.frame, a.countsUnderrun) := by
  rw [Aud.sourcePeriod, h]; rfl

theorem sourcePeriod_silent {a : Aud} (hr : a.ramp = none) (h : a.powerFailHold = true ∨ a.playout = .stopped) :
    a.sourcePeriod = (a, Stereo.zero, false) := by
  rw [Aud.sourcePeriod, hr]
  rcases h with h | h
  · simp [h]
  · simp [h]

theorem sourcePeriod_prefill {a : Aud} (hr : a.ramp = none) (hh : a.powerFailHold = false) (hp : a.playout = .priming)
    (hf : a.fill < a.prefill) : a.sourcePeriod = (a, Stereo.zero, a.underrun) := by
  rw [Aud.sourcePeriod, hr]
  simp [hh, hp, Nat.not_le_of_lt hf]

theorem sourcePeriod_start {a : Aud} (hr : a.ramp = none) (hh : a.powerFailHold = false) (hp : a.playout = .priming)
    (hf : a.prefill ≤ a.fill) : a.sourcePeriod =
      ((Aud.consume { a with playout := .playing, underrun := false }).1,
        (Aud.consume { a with playout := .playing, underrun := false }).2, false) := by
  rw [Aud.sourcePeriod, hr]
  simp [hh, hp, hf]

theorem sourcePeriod_playing {a : Aud} (hr : a.ramp = none) (hh : a.powerFailHold = false) (hp : a.playout = .playing)
    (hq : a.queue ≠ []) : a.sourcePeriod = (a.consume.1, a.consume.2, false) := by
  rw [Aud.sourcePeriod, hr]
  simp [hh, hp, hq]

theorem sourcePeriod_dry {a : Aud} (hr : a.ramp = none) (hh : a.powerFailHold = false) (hp : a.playout = .playing)
    (hq : a.queue = []) : a.sourcePeriod = (a.runDry.1, a.runDry.2, true) := by
  rw [Aud.sourcePeriod, hr]
  simp [hh, hp, hq]

/-- One frame of the oldest block is consumed, and a block used up leaves the queue (R101). -/
theorem consume_eq {a : Aud} {b : AudioBlock} {rest : List AudioBlock} {frame : Stereo} (hq : a.queue = b :: rest)
    (hf : b.samples[b.consumed]? = some frame) : a.consume =
      ({ a with
        lastFrame := frame,
        queue := if b.samples.length = b.consumed + 1 then rest
          else { b with consumed := b.consumed + 1 } :: rest }, frame) := by
  obtain ⟨hlt, -⟩ := List.getElem?_eq_some_iff.1 hf
  have used : b.samples.length ≤ b.consumed + 1 ↔ b.samples.length = b.consumed + 1 := by omega
  rw [Aud.consume, hq]
  simp only [List.getD_eq_getElem?_getD, hf, Option.getD_some, used]

/-- PLAYING, and PRIMING once the prefill is reached, consume a frame (R100, R101). -/
theorem sourcePeriod_consumes {a : Aud} {b : AudioBlock} {rest : List AudioBlock} {frame : Stereo}
    (hr : a.ramp = none) (hh : a.powerFailHold = false)
    (hp : a.playout = .playing ∨ (a.playout = .priming ∧ a.prefill ≤ a.fill)) (hq : a.queue = b :: rest)
    (hf : b.samples[b.consumed]? = some frame) : a.sourcePeriod =
      ({ a with
        playout := .playing, underrun := if a.playout = .playing then a.underrun else false, lastFrame := frame,
        queue := if b.samples.length = b.consumed + 1 then rest
          else { b with consumed := b.consumed + 1 } :: rest }, frame, false) := by
  rcases hp with hp | ⟨hp, hfill⟩
  · rw [sourcePeriod_playing hr hh hp (by simp [hq]), consume_eq hq hf, if_pos hp, ← hp]
  · have idle : ¬ a.playout = .playing := by simp [hp]
    rw [sourcePeriod_start hr hh hp hfill,
      consume_eq (a := { a with playout := .playing, underrun := false }) hq hf, if_neg idle]

/-- The last step of a ramp is silence (R103). -/
theorem frame_of_last {r : Ramp} (h : r.step = 32) : r.frame = Stereo.zero := by
  simp [Ramp.frame, rampSample, h, Stereo.zero]

/-! ## Microphone samples -/

theorem exec_micSample {s : State} {v : W16} (hr : s.mdc.inReset = false) (hd : s.aud.micDue = true) :
    exec (.micSample v) s =
      .next (if s.aud.micRunning then s.micPassed.micSample v else s.micPassed) :=
  occur_due (due := fun s => s.aud.micDue)
    (effect := fun s => if s.aud.micRunning then s.micPassed.micSample v else s.micPassed) hr hd

end Sys2Proof.Machine

section Settled
open Sys2Proof Sys2Proof.Machine

/-- Settles O31: each event of the lane where it is due, with no answer awaited by the Mode Controller. -/
theorem theLaneFollowsItsSignalAndItsIdleRules : Obligations.TheLaneFollowsItsSignalAndItsIdleRules := by
  refine ⟨fun s hr hf => ⟨fun hl => ?_, fun hl => ?_, fun hl hh => ?_, fun hl hh hb => ?_, fun hl ht => ?_, fun i hb => ?_,
    fun hb => ?_⟩, fun s hr hf => ⟨fun hl => ?_, fun hl hw hh => ?_, fun hl hw hh hb => ?_, ?_⟩⟩
  · rw [exec_signalDetected hr, if_pos hl]
  · rw [exec_signalDetected hr, if_neg hl]
  · rw [exec_trainingLock hr hl, laneActive_free hf, if_neg]
    rintro ⟨h1, h2⟩
    simp [h1, h2] at hh
  · rw [exec_trainingLock hr hl, laneActive_free hf, if_pos ⟨hh, hb⟩]
  · refine (occur_due (due := State.trainingTimeoutIsDue) (effect := fun s => s.withPlr s.plr.train) hr
      (by simp [State.trainingTimeoutIsDue, hl, ht])).trans ?_
    rw [Plr.train, ← hl]
  · rw [exec_signalLoss hr hf, State.abandonBurst]
    simp only [withPlr_plr, hb]
    rfl
  · rw [exec_signalLoss hr hf, State.abandonBurst]
    cases h : s.plr.burst <;> simp_all [Burst.isSlice]
  · refine (occur_due (due := fun s => s.plr.lane = .idle) (effect := fun s =>
      let s := s.note .lostToIdle
      (s.withPlr ({ s.plr with burst := .lost } : Plr).wake).laneAnswer) hr (by simpa using hl)).trans ?_
    dsimp only
    rw [laneAnswer_free (s := (s.note .lostToIdle).withPlr _) hf]
    rfl
  · rw [exec_wakingEnd hr hl hw, laneActive_free hf, if_neg, ← hw]
    rintro ⟨h1, h2⟩
    simp [h1, h2] at hh
  · rw [exec_wakingEnd hr hl hw, laneActive_free hf, if_pos ⟨hh, hb⟩, ← hw]
  · intro t hd hp hl hb hfill ht hreq hw hfc wait hmin resume
    refine (occur_due (due := State.idleEntryIsDue) (effect := State.enterIdle) hr ?_).trans ?_
    · simp only [State.idleEntryIsDue, hd, hp, hl, hb, hfill, ht, toWakeMark_eq hw hfc, Option.any_some, tbcDiff]
      simp only [decide_true, Bool.true_and, Bool.not_false, Bool.and_eq_true, decide_eq_true_eq]
      exact ⟨decide_eq_true hreq, hmin⟩
    · rw [State.enterIdle, toWakeMark_eq hw hfc]

/-- Settles O46: the table of R96 in each of its rows. -/
theorem outputPeriodsFollowThePlayoutState : Obligations.OutputPeriodsFollowThePlayoutState := by
  intro s hd out fade silence counted
  refine ⟨fun r hr hs => ?_, fun r hr hs => ?_, fun hr hh => ?_, fun hr hh hp hf => ?_,
    fun b rest frame hr hh hp hq hframe => ?_, fun hr hh hp hq => ?_⟩
  all_goals rw [exec_outputPeriod hd]
  · refine congrArg _ ((outputPeriod_eq (a := { s.aud with ramp := some { r with step := r.step + 1 } }) ?_ rfl rfl
      rfl).trans (if_congr (countsUnderrun_iff s.aud) rfl rfl))
    rw [sourcePeriod_ramp hr, Aud.rampPeriod, if_neg (by omega)]
    rfl
  · refine congrArg _ ((outputPeriod_eq (a := { s.aud with ramp := none, lastFrame := silence }) ?_ rfl rfl
      rfl).trans (if_congr (countsUnderrun_iff s.aud) rfl rfl))
    rw [sourcePeriod_ramp hr, Aud.rampPeriod, if_pos (by omega), frame_of_last hs]
    rfl
  · exact congrArg _ (outputPeriod_eq (sourcePeriod_silent hr hh) rfl rfl rfl)
  · exact congrArg _ (outputPeriod_eq (sourcePeriod_prefill hr hh hp hf) rfl rfl rfl)
  · exact congrArg _ (outputPeriod_eq (sourcePeriod_consumes hr hh hp hq hframe) rfl rfl rfl)
  · rw [outputPeriod_eq (sourcePeriod_dry hr hh hp hq) rfl rfl rfl]
    rfl

/-- Settles O47: a sample joins the block, which is offered once it has reached its size. -/
theorem microphoneSamplesFillBlocks : Obligations.MicrophoneSamplesFillBlocks := by
  intro s v hr hd
  refine ⟨fun hm => ?_, fun hm hn hb => ?_, fun d hm hs hb => ?_, fun d hm hs hb => ?_⟩
  all_goals rw [exec_micSample hr hd, hm]
  · rfl
  · simp only [if_true, State.micSample, State.micPassed, Aud.joinMic, withAud_aud, hn]
    rw [if_neg (by simpa using hb)]
    rfl
  · simp only [if_true, State.micSample, State.micPassed, Aud.joinMic, withAud_aud, hs]
    rw [if_neg (by simpa using hb)]
    rfl
  · simp only [if_true, State.micSample, State.micPassed, Aud.joinMic, withAud_aud, hs]
    rw [if_pos (by simpa using hb)]
    rfl

end Settled
end

section
/-! ROUND and MONITOR STOP (O50), MONITOR SET (O51) and the refusals of MODE (O55). -/

namespace Sys2Proof.Machine

/-! ## MODE -/

theorem moving_iff (d : Device) : d.moving = true ↔ d = .starting ∨ d = .stopping ∨ d = .dozeEntry ∨ d = .waking := by
  cases d <;> decide

/-- Every row of MODE is `State.mode` of its target (R134). -/
theorem exec_mode {s : State} {tag target : Byte} {c : Instr}
    (hc : c = .modeRun tag target ∨ (c = .modeStandby tag ∧ target = 1) ∨ (c = .modeDoze tag ∧ target = 2) ∨
      (c = .modeWake tag ∧ target = 3)) (h : s.Runs c) :
    exec c s = .next ((s.claiming c).mode tag target) ∧ commandCode c = 0x22 ∧ commandTag c = tag := by
  rcases hc with rfl | ⟨rfl, rfl⟩ | ⟨rfl, rfl⟩ | ⟨rfl, rfl⟩
  · exact ⟨execute_runs (effect := fun s => s.mode tag target) h, rfl, rfl⟩
  · exact ⟨execute_runs (effect := fun s => s.mode tag 1) h, rfl, rfl⟩
  · exact ⟨execute_runs (effect := fun s => s.mode tag 2) h, rfl, rfl⟩
  · exact ⟨execute_runs (effect := fun s => s.mode tag 3) h, rfl, rfl⟩

/-! ## ROUND -/

theorem onDemand_iff (m : Mon) : m.onDemand = true ↔
    (∃ r, m.round = some r ∧ r.kind ≠ .frame) ∨ m.waiting ≠ none ∨ m.series = true := by
  rw [Mon.onDemand, Bool.or_eq_true, Bool.or_eq_true, Option.isSome_iff_ne_none, or_assoc]
  cases m.round <;> simp

theorem demand_eq (m : Mon) (kind : RoundKind) (first last : Nat) : m.demand kind first last =
    if m.round = none then
      { m with round := some { kind := kind, input := first, first := first, last := last, left := 50, done := [] } }
    else { m with waiting := some { kind := kind, first := first, last := last } } := by
  unfold Mon.demand
  cases h : m.round with
  | none => rfl
  | some r => rfl

/-- ROUND's checks in their order (R119). -/
theorem roundRefusal_eq (s : State) (mode first last : Byte) : roundRefusal s mode first last =
    if s.mdc.device = .dozeEntry ∨ s.mdc.device = .doze ∨ s.mdc.device = .waking then some .wrongState
    else if (∃ r, s.mon.round = some r ∧ r.kind ≠ .frame) ∨ s.mon.waiting ≠ none ∨ s.mon.series = true then some .busy
    else if (7 < first.toNat ∨ 7 < last.toNat ∨ last.toNat < first.toNat) ∨ 1 < mode.toNat then some .badValue
    else none := by
  have bad : (1 < mode.toNat || 7 < first.toNat || 7 < last.toNat || last.toNat < first.toNat) = true ↔
      (7 < first.toNat ∨ 7 < last.toNat ∨ last.toNat < first.toNat) ∨ 1 < mode.toNat := by
    simp only [Bool.or_eq_true, decide_eq_true_eq]; tauto
  rw [roundRefusal]
  simp only [dozing_iff, onDemand_iff, bad]

/-- A refused ROUND. -/
theorem round_refused {s : State} {tag mode first last : Byte} {c : Instr} {st : Status} (hc : commandCode c = 0x53)
    (ht : commandTag c = tag) (h : roundRefusal s mode first last = some st) :
    s.round tag mode first last = s.replying c st [] := by
  rw [State.round, h, ← replyTo_eq, hc, ht]

theorem round_oneShot {s : State} {tag mode first last : Byte} (hm : mode = 0)
    (h : roundRefusal s mode first last = none) : s.round tag mode first last = s.withMon
      (if s.mon.round = none then
        { s.mon with
          oneShotTag := some tag,
          round := some { kind := .oneShot, input := first.toNat, first := first.toNat, last := last.toNat, left := 50,
                          done := [] } }
      else
        { s.mon with
          oneShotTag := some tag, waiting := some { kind := .oneShot, first := first.toNat, last := last.toNat } }) := by
  rw [State.round, h]
  simp only [hm, if_true, demand_eq]

theorem round_continuous {s : State} {tag first last : Byte} (h : roundRefusal s 1 first last = none) :
    s.round tag 1 first last = (s.withMon
      (if s.mon.round = none then
        { s.mon with
          series := true,
          round := some { kind := .continuous, input := first.toNat, first := first.toNat, last := last.toNat,
                          left := 50, done := [] } }
      else
        { s.mon with
          series := true, waiting := some { kind := .continuous, first := first.toNat, last := last.toNat } })).replying
        (.roundContinuous tag first last) .ok [] := by
  rw [State.round, h]
  simp only [show (1 : Byte) ≠ 0 by decide, if_false, demand_eq]
  exact replyTo_eq _ (.roundContinuous tag first last) _ _

/-! ## MONITOR STOP -/

/-- With no round waiting there is none to abort. -/
theorem abortWaiting_none {s : State} (h : s.mon.waiting = none) : s.abortWaiting = s := by
  have same : s.withMon { s.mon with waiting := none } = s := by rw [← h]; rfl
  rw [State.abortWaiting, same, h]
  rfl

theorem abortRound_other {s : State} (h : ∀ r, s.mon.round = some r → r.kind ≠ .oneShot) : s.abortRound = s := by
  unfold State.abortRound
  split
  · rfl
  · next r hr => rw [if_neg (h r hr)]

/-- With no on-demand round running or waiting, MONITOR STOP only ends a series (R120). -/
theorem stopMonitor_frame {s : State} (hk : s.mon.round = none ∨ ∃ r, s.mon.round = some r ∧ r.kind = .frame)
    (hw : s.mon.waiting = none) : s.stopMonitor = s.withMon { s.mon with series := false } := by
  have running : s.mon.round.any (fun r => r.kind ≠ .frame) = false := by
    rcases hk with h | ⟨r, h, hr⟩
    · rw [h]; rfl
    · simp [h, hr]
  have other : ∀ r, s.mon.round = some r → r.kind ≠ .oneShot := by
    rintro r hr ho
    simp [hr, ho] at running
  rw [State.stopMonitor, abortRound_other other, abortWaiting_none hw, running]
  rfl

/-- A running ONE_SHOT is replied ABORTED with the values it has, and the converter is IDLE (R120). -/
theorem stopMonitor_oneShot {s : State} {r : Round} {t : Byte} (hr : s.mon.round = some r) (hk : r.kind = .oneShot)
    (ht : s.mon.oneShotTag = some t) (hw : s.mon.waiting = none) (hp : s.mon.pendingFrame = false) :
    s.stopMonitor = ((s.withMon { s.mon with oneShotTag := none }).replyTo 0x53 t .aborted (roundData r.done)).withMon
      { s.mon with round := none, series := false, oneShotTag := none } := by
  have aborted : s.abortRound =
      (s.withMon { s.mon with oneShotTag := none }).replyTo 0x53 t .aborted (roundData r.done) := by
    rw [State.abortRound, hr]
    simp only [hk, if_true]
    rw [State.answerRound, ht]
  have running : s.mon.round.any (fun r => r.kind ≠ .frame) = true := by simp [hr, hk]
  rw [State.stopMonitor, running, aborted, abortWaiting_none (by rw [replyTo_mon]; exact hw)]
  simp [Mon.startNext, hp, hw]

/-- A running round of a series ends, and a pending frame round starts (R118, R120). -/
theorem stopMonitor_continuous {s : State} {r : Round} (hr : s.mon.round = some r) (hk : r.kind = .continuous)
    (hw : s.mon.waiting = none) (hp : s.mon.pendingFrame = true) : s.stopMonitor = s.withMon { s.mon with
      series := false, pendingFrame := false,
      round := some { kind := .frame, input := 0, first := 0, last := 7, left := 50, done := [] } } := by
  have running : s.mon.round.any (fun r => r.kind ≠ .frame) = true := by simp [hr, hk]
  have other : ∀ x, s.mon.round = some x → x.kind ≠ .oneShot := by
    rintro x hx ho
    obtain rfl := Option.some.inj (hr.symm.trans hx)
    rw [hk] at ho; cases ho
  rw [State.stopMonitor, abortRound_other other, abortWaiting_none hw, running]
  simp [Mon.startNext, Mon.startRound, hp]

/-- While a record is being sent a reply is only HELD (R152). -/
theorem replied_busy {x : Smp} (h : x.sending ≠ none) (r : Reply) :
    x.replied r = { x with reserved := x.reserved - 1, held := x.held ++ [r] } := by
  unfold Smp.replied
  split
  · next hn _ => exact absurd hn h
  · next hn _ => exact absurd hn h
  · rfl

/-- Two replies made while a record is being sent (R152, log entry 23). -/
theorem makeReply_twice {s : State} (h : s.smp.sending ≠ none) (x y : Mon) (r r' : Reply) :
    (((s.withMon x).makeReply r).withMon y).makeReply r' = (s.withMon y).withSmp
      { s.smp with reserved := s.smp.reserved - 1 - 1, held := s.smp.held ++ [r, r'] } := by
  simp only [makeReply_eq, withMon_smp, withSmp_smp, replied_busy h]
  rw [replied_busy (x := { s.smp with reserved := s.smp.reserved - 1, held := s.smp.held ++ [r] }) h,
    List.append_assoc]
  rfl

/-! ## MONITOR SET -/

theorem repeated_iff (xs : List Byte) : repeated xs = true ↔ ¬ xs.Nodup := by
  induction xs with
  | nil => simp [repeated]
  | cons x xs ih => rw [repeated, Bool.or_eq_true, ih, List.nodup_cons]; simp; tauto

/-- A limit as the claim of MONITOR SET states it: absent, or brought into the range of its input (R124). -/
theorem itemLimit_eq (input : Nat) (given : Bool) (v : W16) : itemLimit input given v =
    if given then
      some (max (if input ≤ 4 then 0 else -500) (min (if input = 0 then 20475 else if input ≤ 4 then 5118 else 4618) v.toInt))
    else none := by
  have order : inputLeast input ≤ inputGreatest input := by
    unfold inputLeast inputGreatest
    repeat' split
    all_goals omega
  rw [itemLimit, clampTo_eq order]
  rfl

theorem itemCrossed_iff (x : LimitItem) : itemCrossed x = true ↔
    ∃ l h, itemLimit x.input.toNat (x.presence.getLsbD 0) x.low = some l ∧
      itemLimit x.input.toNat (x.presence.getLsbD 1) x.high = some h ∧ h < l := by
  rw [itemCrossed, itemLimits]
  generalize itemLimit _ (x.presence.getLsbD 0) x.low = low
  generalize itemLimit _ (x.presence.getLsbD 1) x.high = high
  cases low <;> cases high <;> simp

/-- The items written one after the other change the limits alone; each input named has its own item's limits. -/
theorem foldl_setItem (items : List LimitItem) (m : Mon) : ∃ ls, items.foldl Mon.setItem m = { m with limits := ls } ∧
    ls.length = m.limits.length ∧ (∀ i : Nat, (∀ x ∈ items, x.input.toNat ≠ i) → ls[i]? = m.limits[i]?) ∧
    ((items.map (·.input)).Nodup → ∀ x ∈ items, x.input.toNat < m.limits.length → ls[x.input.toNat]? =
      some { low := writtenLimit (itemLimits x).1, high := writtenLimit (itemLimits x).2 }) := by
  induction items generalizing m with
  | nil => exact ⟨m.limits, rfl, rfl, fun _ _ => rfl, fun _ _ hx => nomatch hx⟩
  | cons y ys ih =>
    obtain ⟨ls, he, hlen, hother, hsame⟩ := ih (m.setItem y)
    have length : (m.setItem y).limits.length = m.limits.length := by simp [Mon.setItem]
    refine ⟨ls, he, hlen.trans length, fun i hi => ?_, fun hnd x hx hlt => ?_⟩
    · rw [hother i fun x hx => hi x (List.mem_cons_of_mem _ hx), Mon.setItem,
        List.getElem?_set_ne (hi y List.mem_cons_self)]
    · obtain ⟨hy, hnd'⟩ := List.nodup_cons.1 hnd
      rcases List.mem_cons.1 hx with rfl | hx'
      · rw [hother _ fun z hz heq => hy ?_, Mon.setItem, List.getElem?_set_self hlt]
        exact List.mem_map.2 ⟨z, hz, BitVec.eq_of_toNat_eq heq⟩
      · exact hsame hnd' x hx' (by rwa [length])

theorem itemOutside_iff (input : Nat) (given : Bool) (v : W16) : itemOutside input given v = true ↔
    given = true ∧ itemLimit input given v ≠ some v.toInt := by
  have order : inputLeast input ≤ inputGreatest input := by
    unfold inputLeast inputGreatest
    repeat' split
    all_goals omega
  cases given with
  | false => simp [itemOutside]
  | true =>
    rw [itemLimit, if_pos rfl, clampTo_eq order]
    simp only [itemOutside, Bool.true_and, Bool.or_eq_true, decide_eq_true_eq, ne_eq, Option.some.injEq, true_and]
    omega

end Sys2Proof.Machine

section Settled
open Sys2Proof Sys2Proof.Machine

/-- Settles O55: the rows of `modeVerdict` above its last, in their order. -/
theorem modeFollowsItsTable : Obligations.ModeFollowsItsTable := by
  intro s tag target c hc hr d moving same wrong
  obtain ⟨he, hcode, htag⟩ := exec_mode hc hr
  have refuse {st : Status} (hv : modeVerdict s.mdc.device s.gov.state target = .refused st) :
      exec c s = .next (s.answering c st []) := by
    have hv' : modeVerdict (s.claiming c).mdc.device (s.claiming c).gov.state target = .refused st := hv
    rw [he, State.mode, hv', State.answering, ← replyTo_eq, hcode, htag]
  have rest (hm : ¬ moving) : ¬ s.mdc.device.moving = true := mt (moving_iff _).1 hm
  refine ⟨fun hm => refuse ?_, fun hm ht => refuse ?_, fun hm hs => ?_, fun hm ht hs hw => refuse ?_⟩
  · rw [modeVerdict, if_pos ((moving_iff _).2 hm)]
  · rw [modeVerdict, if_neg (rest hm), if_pos ht]
  · have le : ¬ 3 < target.toNat := by
      rcases hs with ⟨rfl, -⟩ | ⟨rfl, -⟩ | ⟨rfl, -⟩ <;> decide
    have hv : modeVerdict (s.claiming c).mdc.device (s.claiming c).gov.state target = .already := by
      rw [claiming_mdc, modeVerdict, if_neg (rest hm), if_neg le, if_pos hs]
    rw [he, State.mode, hv, State.answering, ← replyTo_eq, hcode, htag]
    rfl
  · rw [modeVerdict, if_neg (rest hm), if_neg (by omega), if_neg hs]
    rcases hw with h | h | h
    · rw [if_pos h]
    · by_cases h3 : target = 3 ∧ s.mdc.device ≠ .doze
      · rw [if_pos h3]
      · rw [if_neg h3, if_pos h]
    · by_cases h3 : target = 3 ∧ s.mdc.device ≠ .doze
      · rw [if_pos h3]
      · by_cases hd : (target = 0 ∨ target = 1) ∧ s.mdc.device = .doze
        · rw [if_neg h3, if_pos hd]
        · rw [if_neg h3, if_neg hd, if_pos h]

/-- Settles O50: ROUND's checks by `roundRefusal_eq`, and what MONITOR STOP does by what runs. -/
theorem roundsAreStartedAndStopped : Obligations.RoundsAreStartedAndStopped := by
  refine ⟨fun s tag mode first last => ?_, fun s tag => ?_⟩
  · intro dozing work bad start one series
    refine ⟨fun hr => ?_, fun hr => ?_⟩
    · have he : exec one s = .next ((s.claiming one).round tag mode first last) :=
        execute_runs (effect := fun s => s.round tag mode first last) hr
      have refusal := roundRefusal_eq (s.claiming one) mode first last
      rw [he]
      refine ⟨fun hd => ?_, fun hd hw => ?_, fun hd hw hb => ?_, fun hd hw hb hm => ?_⟩
      · exact congrArg _ (round_refused rfl rfl (refusal.trans (if_pos hd)))
      · exact congrArg _ (round_refused rfl rfl (refusal.trans ((if_neg hd).trans (if_pos hw))))
      · exact congrArg _ (round_refused rfl rfl (refusal.trans ((if_neg hd).trans ((if_neg hw).trans (if_pos hb)))))
      · refine congrArg _ (round_oneShot hm (refusal.trans ((if_neg hd).trans ((if_neg hw).trans (if_neg ?_)))))
        rintro (h | h)
        · exact hb h
        · rw [hm] at h; exact absurd h (by decide)
    · have he : exec series s = .next ((s.claiming series).round tag 1 first last) :=
        execute_runs (effect := fun s => s.round tag 1 first last) hr
      have refusal := roundRefusal_eq (s.claiming series) 1 first last
      rw [he]
      refine ⟨fun hd => ?_, fun hd hw => ?_, fun hd hw hb => ?_, fun hd hw hb => ?_⟩
      · exact congrArg _ (round_refused rfl rfl (refusal.trans (if_pos hd)))
      · exact congrArg _ (round_refused rfl rfl (refusal.trans ((if_neg hd).trans (if_pos hw))))
      · exact congrArg _ (round_refused rfl rfl
          (refusal.trans ((if_neg hd).trans ((if_neg hw).trans (if_pos (.inl hb))))))
      · refine congrArg _ (round_continuous (refusal.trans ((if_neg hd).trans ((if_neg hw).trans (if_neg ?_)))))
        rintro (h | h)
        · exact hb h
        · exact absurd h (by decide)
  · intro c hr hs
    have he : exec c s = .next ((s.claiming c).stopMonitor.replyTo 0x51 tag .ok []) :=
      execute_runs (effect := fun s => s.stopMonitor.replyTo 0x51 tag .ok []) hr
    rw [he]
    refine ⟨fun hk hw => ?_, fun r t hround hk ht hw hp => ?_, fun r hround hk hw hp => ?_⟩
    · rw [stopMonitor_frame (s := s.claiming c) hk hw]
      exact congrArg _ (replyTo_eq _ c _ _)
    · rw [stopMonitor_oneShot (s := s.claiming c) hround hk ht hw hp]
      have sending : (s.claiming c).smp.sending ≠ none := by rwa [claiming_smp, claimed_sending]
      have held : (s.claiming c).smp.held = s.smp.held := claimed_held ..
      rw [State.replyTo, State.replyTo, makeReply_twice sending, held]
      rfl
    · rw [stopMonitor_continuous (s := s.claiming c) hround hk hw hp]
      exact congrArg _ (replyTo_eq _ c _ _)

/-- Settles O51: `monitorRefusal` in the order of its checks, and the items written by `foldl_setItem`. -/
theorem monitorSetWritesItsParts : Obligations.MonitorSetWritesItsParts := by
  intro s tag f c work bad limit crossed armed hr
  have he : exec c s = .next ((s.claiming c).setMonitor tag f) :=
    execute_runs (effect := fun s => s.setMonitor tag f) hr
  have refuse {st : Status} (hv : monitorRefusal (s.claiming c) f = some st) :
      exec c s = .next (s.answering c st []) := by
    rw [he, State.setMonitor, hv]
    exact congrArg _ (replyTo_eq _ c _ _)
  have limit_low (x : LimitItem) : limit x 0 x.low = (itemLimits x).1 := (itemLimit_eq ..).symm
  have limit_high (x : LimitItem) : limit x 1 x.high = (itemLimits x).2 := (itemLimit_eq ..).symm
  have busy : work ↔ (s.claiming c).mon.onDemand = true := (onDemand_iff _).symm
  have badValue : bad ↔ (f.stray || badItems f.items) = true := by
    rw [badItems, Bool.or_eq_true, Bool.or_eq_true, repeated_iff, List.any_eq_true]
    simp only [Bool.or_eq_true, decide_eq_true_eq]
    exact Iff.rfl
  have conflict : crossed ↔ f.items.any itemCrossed = true := by
    rw [List.any_eq_true]
    constructor
    · rintro ⟨x, hx, l, h, hl, hh, hlt⟩
      exact ⟨x, hx, (itemCrossed_iff x).2 ⟨l, h, (limit_low x).symm.trans hl, (limit_high x).symm.trans hh, hlt⟩⟩
    · rintro ⟨x, hx, hc⟩
      obtain ⟨l, h, hl, hh, hlt⟩ := (itemCrossed_iff x).1 hc
      exact ⟨x, hx, l, h, (limit_low x).trans hl, (limit_high x).trans hh, hlt⟩
  refine ⟨fun hw => refuse ?_, fun hw hb => refuse ?_, fun hw hb hx => refuse ?_, fun hw hb hx => ?_⟩
  · rw [monitorRefusal, if_pos (busy.1 hw)]
  · rw [monitorRefusal, if_neg (mt busy.2 hw), if_pos (badValue.1 hb)]
  · rw [monitorRefusal, if_neg (mt busy.2 hw), if_neg (mt badValue.2 hb), if_pos (conflict.1 hx)]
  · have hv : monitorRefusal (s.claiming c) f = none := by
      rw [monitorRefusal, if_neg (mt busy.2 hw), if_neg (mt badValue.2 hb), if_neg (mt conflict.2 hx)]
    have clamps : (clamped16 0 255 f.divider || f.items.any itemClamps) = true ↔
        (f.divider.any (fun v => 255 < v.toNat) = true ∨ ∃ x ∈ f.items,
          (x.presence.getLsbD 0 = true ∧ limit x 0 x.low ≠ some x.low.toInt) ∨
            (x.presence.getLsbD 1 = true ∧ limit x 1 x.high ≠ some x.high.toInt)) := by
      rw [Bool.or_eq_true, clamped16_zero, List.any_eq_true]
      refine or_congr Iff.rfl (exists_congr fun x => and_congr Iff.rfl ?_)
      rw [itemClamps, Bool.or_eq_true, itemOutside_iff, itemOutside_iff, limit_low, limit_high]
      exact Iff.rfl
    obtain ⟨ls, hset, hlen, hother, hsame⟩ := foldl_setItem f.items { s.mon with
      mask := f.mask.getD s.mon.mask, divider := field16 0 255 f.divider s.mon.divider,
      divCount := if f.divider.isSome then 0 else s.mon.divCount }
    have mon : (s.claiming c).mon.set f = _ := hset
    have reply := replyTo_eq ((s.claiming c).withMon ((s.claiming c).mon.set f)) c
      (okOr (clamped16 0 255 f.divider || f.items.any itemClamps)) []
    refine ⟨((s.claiming c).withMon ((s.claiming c).mon.set f)).replying c _ [],
      he.trans (congrArg _ (by rw [State.setMonitor, hv]; exact reply)), ?_⟩
    rw [mon, okOr]
    simp only [clamps]
    refine ⟨rfl, field16_zero .., rfl, fun x hx hlt => ?_, fun i hi => hother i hi, rfl, rfl, rfl, rfl, rfl, rfl, rfl,
      rfl, rfl, rfl, rfl, rfl, rfl, rfl, rfl⟩
    refine (hsame ?_ x hx hlt).trans ?_
    · exact Classical.not_not.1 fun hnd => hb (.inr (.inr hnd))
    · rw [limit_low, limit_high]
      rfl

end Settled
end

section
/-! The payload of a well-formed host command reads back as the command (section 10.5, R151, R166): the presence byte,
the optional fields one after the other, and the fixed fields. -/

namespace Sys2Proof.Machine

/-! ## Fields that read back -/

/-- A 32-bit field reads back. -/
@[simp] theorem read32_le32 (v : W32) (rest : List Byte) : read32 (le32 v ++ rest) = v := by
  simp only [le32, read32, List.cons_append, List.nil_append, List.getD_cons_succ, List.getD_cons_zero]
  apply BitVec.eq_of_getLsbD_eq
  intro i hi
  rw [BitVec.getLsbD_append, BitVec.getLsbD_append, BitVec.getLsbD_append]
  simp only [BitVec.getLsbD_extractLsb']
  split_ifs with h₀ h₁ h₂
  · simp [h₀]
  · simp [h₁, show 8 + (i - 8) = i by omega]
  · simp [h₂, show 16 + (i - 8 - 8) = i by omega]
  · simp [show i - 8 - 8 - 8 < 8 by omega, show 24 + (i - 8 - 8 - 8) = i by omega]

/-- What stands after a 16-bit field. -/
@[simp] theorem drop_le16 (v : W16) (rest : List Byte) (n : Nat) : (le16 v ++ rest).drop (n + 2) = rest.drop n := rfl

/-! ## The presence byte -/

theorem packBits_shift (bs : List Bool) (n : Nat) (h : bs.length ≤ 8) : packBits bs >>> n = packBits (bs.drop n) := by
  apply BitVec.eq_of_getLsbD_eq
  intro i hi
  rw [BitVec.getLsbD_ushiftRight, getLsbD_packBits _ _ hi]
  by_cases hn : n + i < 8
  · rw [getLsbD_packBits _ _ hn]; simp
  · rw [BitVec.getLsbD_of_ge _ _ (by omega), List.getD_eq_default]; simp; omega

/-- The bit above the listed fields of a presence byte is the stray one (R166). -/
@[simp] theorem strayBit_presence (fields : List Bool) (stray : Bool) (n : Nat) (hn : fields.length = n) (h : n ≤ 7) :
    strayBit (presence fields stray) n = stray := by
  have hs : packBits (fields ++ [stray]) >>> n = packBits [stray] := by
    rw [packBits_shift _ _ (by simp; omega), ← hn, List.drop_left]
  have hv : (packBits (fields ++ [stray])).toNat / 2 ^ n = (packBits [stray]).toNat := by
    rw [← hs, BitVec.toNat_ushiftRight, Nat.shiftRight_eq_div_pow]
  rw [strayBit, presence, hv]
  cases stray <;> rfl

/-- A bit of a presence byte says whether its field is sent. -/
@[simp] theorem getElem_presence (fields : List Bool) (stray : Bool) (i : Nat) (hi : i < 8) (h : i < fields.length) :
    (presence fields stray)[i] = fields[i] := by
  rw [← BitVec.getLsbD_eq_getElem, presence, getLsbD_packBits _ _ hi, List.getD_append _ _ _ _ h,
    List.getD_eq_getElem _ _ h]

/-! ## The optional fields -/

@[simp] theorem drop_one_add_cons (m : Byte) (rest : List Byte) (n : Nat) : (m :: rest).drop (1 + n) = rest.drop n := by
  rw [Nat.add_comm, List.drop_succ_cons]

@[simp] theorem drop_sent16_add (v : Option W16) (rest : List Byte) (n : Nat) :
    (sent16 v ++ rest).drop ((if v.isSome then 2 else 0) + n) = rest.drop n := by
  rw [← length_sent16, ← List.drop_drop, List.drop_left]

@[simp] theorem drop_sent8_add (v : Option Byte) (rest : List Byte) (n : Nat) :
    (sent8 v ++ rest).drop ((if v.isSome then 1 else 0) + n) = rest.drop n := by
  rw [← length_sent8, ← List.drop_drop, List.drop_left]

@[simp] theorem read_sent16 (v : Option W16) (rest : List Byte) :
    (if v.isSome then some (read16 (sent16 v ++ rest)) else none) = v := by
  cases v with
  | none => rfl
  | some v => simp [sent16]

@[simp] theorem read_sent16_last (v : Option W16) : (if v.isSome then some (read16 (sent16 v)) else none) = v := by
  simpa using read_sent16 v []

@[simp] theorem read_sent8 (v : Option Byte) (rest : List Byte) :
    (if v.isSome then some ((sent8 v ++ rest)[0]?.getD 0#8) else none) = v := by
  cases v <;> rfl

@[simp] theorem read_sent8_last (v : Option Byte) : (if v.isSome then some ((sent8 v)[0]?.getD 0#8) else none) = v := by
  cases v <;> rfl

/-- The length of the marked fields by the presence byte. -/
@[simp] theorem markedLength_presence (fields : List Bool) (stray : Bool) (ws : List Nat) (h : fields.length ≤ 7)
    (hw : ws.length ≤ fields.length) : markedLength (presence fields stray) ws =
      (ws.zipIdx.map (fun x => if fields.getD x.2 false then x.1 else 0)).sum := by
  rw [presence, markedLength_packBits _ _ (by simp; omega) (by simp; omega)]
  congr 1
  apply List.map_congr_left
  intro x hx
  have := List.snd_lt_of_mem_zipIdx hx
  rw [List.getD_append _ _ _ _ (by omega)]

/-- The i-th optional 16-bit field, written out. -/
@[simp] theorem marked16_eq (m : Byte) (ws : List Nat) (i base : Nat) (pl : List Byte) : marked16 m ws i base pl =
    if m.getLsbD i then some (read16 (pl.drop (base + markedLength m (ws.take i)))) else none := by
  unfold marked16 markedAt
  split <;> simp

/-- The i-th optional byte, written out. -/
@[simp] theorem marked8_eq (m : Byte) (ws : List Nat) (i base : Nat) (pl : List Byte) : marked8 m ws i base pl =
    if m.getLsbD i then some ((pl.drop (base + markedLength m (ws.take i))).getD 0 0) else none := by
  unfold marked8 markedAt
  split <;> simp

/-! ## The commands with optional fields -/

/-- The payload of a command spells the command (section 10.5). -/
def SpellsItself (i : Instr) : Prop :=
  commandOf (commandCode i) (commandTag i) (payloadOf i) = some i

theorem timingSet_spellsItself (tag : Byte) (f : TimingFields) : SpellsItself (.timingSet tag f) := by
  simp [SpellsItself, commandCode, commandTag, commandOf, payloadOf, optionalWidths]

theorem sync_spellsItself (tag : Byte) (f : SyncFields) : SpellsItself (.sync tag f) := by
  simp [SpellsItself, commandCode, commandTag, commandOf, payloadOf, optionalWidths]

theorem strobeSet_spellsItself (tag : Byte) (f : StrobeFields) : SpellsItself (.strobeSet tag f) := by
  simp [SpellsItself, commandCode, commandTag, commandOf, payloadOf, optionalWidths]

theorem shiftSet_spellsItself (tag : Byte) (f : ShiftFields) : SpellsItself (.shiftSet tag f) := by
  simp [SpellsItself, commandCode, commandTag, commandOf, payloadOf, optionalWidths]

theorem laneSet_spellsItself (tag : Byte) (f : LaneFields) : SpellsItself (.laneSet tag f) := by
  simp [SpellsItself, commandCode, commandTag, commandOf, payloadOf, optionalWidths]

theorem modeAutodoze_spellsItself (tag : Byte) (f : AutodozeFields) : SpellsItself (.modeAutodoze tag f) := by
  simp [SpellsItself, commandCode, commandTag, commandOf, payloadOf, optionalWidths]

theorem motionStart_spellsItself (tag : Byte) (f : MotionStartFields) : SpellsItself (.motionStart tag f) := by
  simp [SpellsItself, commandCode, commandTag, commandOf, payloadOf, optionalWidths]
  rfl

theorem biasSet_spellsItself (tag : Byte) (f : BiasFields) : SpellsItself (.biasSet tag f) := by
  simp [SpellsItself, commandCode, commandTag, commandOf, payloadOf, optionalWidths]

theorem calibrate_spellsItself (tag : Byte) (f : CalibrateFields) : SpellsItself (.calibrate tag f) := by
  simp [SpellsItself, commandCode, commandTag, commandOf, payloadOf, optionalWidths]

theorem audioSet_spellsItself (tag : Byte) (f : AudioFields) : SpellsItself (.audioSet tag f) := by
  simp [SpellsItself, commandCode, commandTag, commandOf, payloadOf, optionalWidths]

theorem limitsSet_spellsItself (tag : Byte) (f : LimitsFields) : SpellsItself (.limitsSet tag f) := by
  simp [SpellsItself, commandCode, commandTag, commandOf, payloadOf, optionalWidths]

/-! ## The commands with fixed fields -/

theorem shiftProbe_spellsItself (tag : Byte) (ref : W16) (target : W32) : SpellsItself (.shiftProbe tag ref target) := by
  have hr : read16 (le16 ref ++ le32 target) = ref := read16_le16 ref _
  have ht : read32 ((le16 ref ++ le32 target).drop 2) = target := read32_le32 target []
  show some (Instr.shiftProbe tag (read16 (le16 ref ++ le32 target)) (read32 ((le16 ref ++ le32 target).drop 2))) = _
  rw [hr, ht]

theorem wakefilterSet_spellsItself (tag : Byte) (f : WakeFilterFields) : SpellsItself (.wakefilterSet tag f) := by
  simp [SpellsItself, commandCode, commandTag, commandOf, payloadOf]
  rfl

theorem allowanceSet_spellsItself (tag : Byte) (a : W16) : SpellsItself (.allowanceSet tag a) :=
  congrArg (fun v => some (Instr.allowanceSet tag v)) (read16_le16 a [])

theorem modeRun_spellsItself (tag target : Byte) (h : (Instr.modeRun tag target).wellFormed = true) :
    SpellsItself (.modeRun tag target) := by
  obtain ⟨h₁, h₂, h₃⟩ : target ≠ 1 ∧ target ≠ 2 ∧ target ≠ 3 := by simpa [Instr.wellFormed] using h
  simp [SpellsItself, commandCode, commandTag, commandOf, payloadOf]
  split
  next e => exact absurd (BitVec.eq_of_toNat_eq e) h₁
  next e => exact absurd (BitVec.eq_of_toNat_eq e) h₂
  next e => exact absurd (BitVec.eq_of_toNat_eq e) h₃
  next => rfl

theorem roundOneShot_spellsItself (tag mode first last : Byte)
    (h : (Instr.roundOneShot tag mode first last).wellFormed = true) :
    SpellsItself (.roundOneShot tag mode first last) := by
  have hm : ¬ mode = 1#8 := by simpa [Instr.wellFormed] using h
  simp [SpellsItself, commandCode, commandTag, commandOf, payloadOf, hm]

/-- The three offsets of RECENTRE read back. -/
theorem read32_recentre (mode : Byte) (yaw pitch roll : W32) :
    let pl := mode :: (le32 yaw ++ le32 pitch ++ le32 roll)
    read32 (pl.drop 1) = yaw ∧ read32 (pl.drop 5) = pitch ∧ read32 (pl.drop 9) = roll :=
  ⟨read32_le32 yaw (le32 pitch ++ le32 roll), read32_le32 pitch (le32 roll), read32_le32 roll []⟩

theorem recentre_spellsItself (tag : Byte) (f : RecentreFields) (h : (Instr.recentre tag f).wellFormed = true) :
    SpellsItself (.recentre tag f) := by
  obtain ⟨mode, yaw, pitch, roll⟩ := f
  by_cases hm : mode = 1 ∨ mode = 2
  · obtain ⟨hy, hp, hr⟩ := read32_recentre mode yaw pitch roll
    have hpl : payloadOf (.recentre tag ⟨mode, yaw, pitch, roll⟩) = mode :: (le32 yaw ++ le32 pitch ++ le32 roll) :=
      if_pos hm
    rw [SpellsItself, hpl]
    show (if mode = 1 ∨ mode = 2 then some (Instr.recentre tag ⟨mode, _, _, _⟩) else _) = _
    rw [if_pos hm, hy, hp, hr]
  · have hpl : payloadOf (.recentre tag ⟨mode, yaw, pitch, roll⟩) = [mode] := if_neg hm
    obtain ⟨rfl, rfl, rfl⟩ : yaw = 0 ∧ pitch = 0 ∧ roll = 0 := by
      obtain h₁ | h₂ | h₀ : mode = 1 ∨ mode = 2 ∨ (yaw = 0 ∧ pitch = 0 ∧ roll = 0) := by
        simpa [Instr.wellFormed] using h
      · exact absurd (.inl h₁) hm
      · exact absurd (.inr h₂) hm
      · exact h₀
    rw [SpellsItself, hpl]
    exact if_neg hm

/-- The items of MONITOR SET read back. -/
theorem readItems_flatMap (items : List LimitItem) : readItems items.length (items.flatMap itemBytes) = items := by
  induction items with
  | nil => rfl
  | cons x items ih =>
    have hl : read16 (((x :: items).flatMap itemBytes).drop 2) = x.low := read16_le16 x.low _
    have hh : read16 (((x :: items).flatMap itemBytes).drop 4) = x.high := read16_le16 x.high _
    rw [List.length_cons, readItems, hl, hh]
    exact congrArg (x :: ·) ih

/-- What follows the optional fields of MONITOR SET: the number of its items, then the items. -/
theorem monitorSet_items (tag : Byte) (f : MonitorFields) (hf : f.items.length ≤ 255) :
    let pl := payloadOf (.monitorSet tag f)
    let opt := markedLength (presence [f.mask.isSome, f.divider.isSome] f.stray) [1, 2]
    readItems (pl.getD (1 + opt) 0).toNat (pl.drop (2 + opt)) = f.items := by
  intro pl opt
  have hopt : pl.drop (1 + opt) = num8 f.items.length ++ f.items.flatMap itemBytes := by
    simp [pl, opt, payloadOf]
  have hnum : pl.getD (1 + opt) 0 = BitVec.ofNat 8 f.items.length := by
    have hd : pl.getD (1 + opt) 0 = (pl.drop (1 + opt)).getD 0 0 := by simp
    rw [hd, hopt]
    rfl
  have hitems : pl.drop (2 + opt) = f.items.flatMap itemBytes := by
    rw [show 2 + opt = 1 + opt + 1 by omega, ← List.drop_drop, hopt]
    rfl
  rw [hnum, hitems, BitVec.toNat_ofNat, Nat.mod_eq_of_lt (by omega), readItems_flatMap]

theorem monitorSet_spellsItself (tag : Byte) (f : MonitorFields) (h : (Instr.monitorSet tag f).wellFormed = true) :
    SpellsItself (.monitorSet tag f) := by
  have hi := monitorSet_items tag f (by simpa [Instr.wellFormed] using h)
  obtain ⟨stray, mask, divider, items⟩ := f
  simp [SpellsItself, commandCode, commandTag, commandOf, payloadOf, optionalWidths]
  exact ⟨by cases mask <;> rfl, by simpa [payloadOf] using hi⟩

/-! ## Every command -/

/-- A payload of the length called for that spells the command is classified as the command (R151). -/
theorem classify_eq_command {code tag : Byte} {pl : List Byte} {c : Instr}
    (hl : calledLength code pl = some pl.length) (hc : commandOf code tag pl = some c) :
    classify code tag pl = .command c := by
  simp [classify, hl, hc]

/-- The payload of a well-formed host command spells it (section 10.5). -/
theorem spellsItself (i : Instr) (hw : i.wellFormed = true) (h0 : commandCode i ≠ 0) : SpellsItself i := by
  cases i with
  | timingSet tag f => exact timingSet_spellsItself tag f
  | sync tag f => exact sync_spellsItself tag f
  | strobeSet tag f => exact strobeSet_spellsItself tag f
  | shiftSet tag f => exact shiftSet_spellsItself tag f
  | shiftProbe tag ref target => exact shiftProbe_spellsItself tag ref target
  | laneSet tag f => exact laneSet_spellsItself tag f
  | modeRun tag target => exact modeRun_spellsItself tag target hw
  | modeAutodoze tag f => exact modeAutodoze_spellsItself tag f
  | motionStart tag f => exact motionStart_spellsItself tag f
  | biasSet tag f => exact biasSet_spellsItself tag f
  | calibrate tag f => exact calibrate_spellsItself tag f
  | recentre tag f => exact recentre_spellsItself tag f hw
  | wakefilterSet tag f => exact wakefilterSet_spellsItself tag f
  | audioSet tag f => exact audioSet_spellsItself tag f
  | monitorSet tag f => exact monitorSet_spellsItself tag f hw
  | roundOneShot tag mode first last => exact roundOneShot_spellsItself tag mode first last hw
  | allowanceSet tag a => exact allowanceSet_spellsItself tag a
  | limitsSet tag f => exact limitsSet_spellsItself tag f
  | _ => simp [SpellsItself, commandCode, commandTag, commandOf, payloadOf] at h0 ⊢

/-- The payload of a well-formed host command has the length its contents call for (R166). -/
theorem calledLength_payloadOf (i : Instr) : Laws.LengthCalled.Statement i := by
  cases i with
  | timingSet tag f => exact Laws.LengthCalled.timingSet tag f
  | sync tag f => exact Laws.LengthCalled.sync tag f
  | strobeSet tag f => exact Laws.LengthCalled.strobeSet tag f
  | shiftSet tag f => exact Laws.LengthCalled.shiftSet tag f
  | laneSet tag f => exact Laws.LengthCalled.laneSet tag f
  | modeAutodoze tag f => exact Laws.LengthCalled.modeAutodoze tag f
  | motionStart tag f => exact Laws.LengthCalled.motionStart tag f
  | biasSet tag f => exact Laws.LengthCalled.biasSet tag f
  | calibrate tag f => exact Laws.LengthCalled.calibrate tag f
  | recentre tag f => exact Laws.LengthCalled.recentre tag f
  | audioSet tag f => exact Laws.LengthCalled.audioSet tag f
  | monitorSet tag f => exact Laws.LengthCalled.monitorSet tag f
  | limitsSet tag f => exact Laws.LengthCalled.limitsSet tag f
  | _ => simp [Laws.LengthCalled.Statement, commandCode, payloadOf, calledLength]

/-- A well-formed host command is classified as itself from its record (R151). -/
theorem classify_payloadOf (i : Instr) (hw : i.wellFormed = true) (h0 : commandCode i ≠ 0) :
    classify (commandCode i) (commandTag i) (payloadOf i) = .command i :=
  classify_eq_command (calledLength_payloadOf i hw h0) (spellsItself i hw h0)

/-- The marked fields take at most the bytes of all the listed ones. -/
theorem markedLength_le_sum (m : Byte) (ws : List Nat) : markedLength m ws ≤ ws.sum := by
  have hz : ws.sum = (ws.zipIdx.map Prod.fst).sum := by rw [List.zipIdx_map_fst]
  rw [markedLength, hz]
  apply List.sum_le_sum
  intro x _
  split <;> omega

theorem sum_optionalWidths_le (code : Byte) : (optionalWidths code).sum ≤ 11 := by
  unfold optionalWidths
  split <;> simp

/-- No command is called for a payload too long for a record (R150, R166): the longest is that of MONITOR SET with 255
items. -/
theorem calledLength_le {code : Byte} {pl : List Byte} {n : Nat} (h : calledLength code pl = some n) : n ≤ 2048 := by
  have ho := (markedLength_le_sum (pl.getD 0 0) _).trans (sum_optionalWidths_le code)
  have hi := (pl.getD (1 + markedLength (pl.getD 0 0) (optionalWidths code)) 0).isLt
  unfold calledLength at h
  split at h <;> simp only [Option.some.injEq, reduceCtorEq] at h
  all_goals (try split at h) <;> omega

theorem length_payloadOf_le (i : Instr) (hw : i.wellFormed = true) (h0 : commandCode i ≠ 0) :
    (payloadOf i).length ≤ 2048 :=
  calledLength_le (calledLength_payloadOf i hw h0)

end Sys2Proof.Machine

/-! The parser on a whole record and on a payload length above 2,048 (R150, R164), and what the port does with it. -/

namespace Sys2Proof.Machine

/-- A record on the lane, with the CRC it is sent with (R164). -/
def wireRecord (kind code tag : Byte) (payload : List Byte) (crc : W16) : List Byte :=
  [0xC3, 0x3C] ++ recordBody kind code tag payload ++ le16 crc

@[simp] theorem length_recordBody (kind code tag : Byte) (payload : List Byte) :
    (recordBody kind code tag payload).length = payload.length + 5 := by
  simp [recordBody]; omega

/-- One look at a whole record takes it, and nothing is left (R150). -/
theorem parseOne_wireRecord (kind code tag : Byte) (payload : List Byte) (crc : W16) (h : payload.length ≤ 2048) :
    parseOne (wireRecord kind code tag payload crc) = .whole (recordBody kind code tag payload) crc [] := by
  have hh : hunt (wireRecord kind code tag payload crc) = wireRecord kind code tag payload crc := rfl
  have hlen : (wireRecord kind code tag payload crc).length = payload.length + 9 := by
    simp [wireRecord]
  have hn : (read16 ((wireRecord kind code tag payload crc).drop 5)).toNat = payload.length := by
    have hr : read16 ((wireRecord kind code tag payload crc).drop 5) = BitVec.ofNat 16 payload.length := by
      rw [wireRecord, recordBody, List.append_assoc, List.append_assoc, List.append_assoc]
      exact read16_le16 _ _
    rw [hr, BitVec.toNat_ofNat, Nat.mod_eq_of_lt (by omega)]
  have hafter : (wireRecord kind code tag payload crc).drop 2 = recordBody kind code tag payload ++ le16 crc := rfl
  have hbody : ((wireRecord kind code tag payload crc).drop 2).take (payload.length + 5) =
      recordBody kind code tag payload := by
    rw [hafter, List.take_left' (length_recordBody ..)]
  have hcrc : read16 ((wireRecord kind code tag payload crc).drop (payload.length + 7)) = crc := by
    rw [show payload.length + 7 = 2 + (payload.length + 5) by omega, ← List.drop_drop, hafter,
      List.drop_left' (length_recordBody ..)]
    exact read16_le16 crc []
  have hrest : (wireRecord kind code tag payload crc).drop (payload.length + 9) = [] :=
    List.drop_eq_nil_of_le (by omega)
  simp only [parseOne, hh, hn]
  rw [if_neg (by omega), if_neg (by omega), if_neg (by omega), hbody, hcrc, hrest]

/-- Hunting keeps no more bytes than there are (R164). -/
theorem length_hunt_le (bytes : List Byte) : (hunt bytes).length ≤ bytes.length := by
  fun_induction hunt bytes <;> simp_all; omega

/-- Fewer bytes than a header are kept (R150). -/
theorem parseOne_short (bytes : List Byte) (h : bytes.length < 7) : parseOne bytes = .hold (hunt bytes) :=
  if_pos (Nat.lt_of_le_of_lt (length_hunt_le bytes) h)

/-- One look at a payload length above 2,048 goes on after the sync (R150). -/
theorem parseOne_tooLong (kind code tag : Byte) (n : W16) (h : 2048 < n.toNat) :
    parseOne ([0xC3, 0x3C, kind, code, tag] ++ le16 n) = .tooLong ([kind, code, tag] ++ le16 n) := by
  have hn : read16 (([0xC3, 0x3C, kind, code, tag] ++ le16 n).drop 5) = n := read16_le16 n []
  have hh : hunt ([0xC3, 0x3C, kind, code, tag] ++ le16 n) = [0xC3, 0x3C, kind, code, tag] ++ le16 n := rfl
  simp only [parseOne, hh, hn]
  rw [if_neg (by simp), if_pos h]
  rfl

/-! ## What the port does with a record -/

/-- The bytes kept and the queues that the arbiter does not serve stay as they are. -/
@[simp] theorem arbitrate_rx (s : State) : s.arbitrate.smp.rx = s.smp.rx := by
  obtain ⟨-, -, -, -, -, -, -, -, -, -, _, _, _, _, _, h⟩ := arbitrate_frame s
  rw [h]

theorem answerAtReception_rx (s : State) (code tag : Byte) (st : Status) :
    (s.answerAtReception code tag st).smp.rx = s.smp.rx := by
  unfold State.answerAtReception
  split
  · rfl
  · rw [arbitrate_rx]; rfl

theorem offerCommand_rx (s : State) (code tag : Byte) (c : Instr) : (s.offerCommand code tag c).smp.rx = s.smp.rx := by
  unfold State.offerCommand
  split
  · rfl
  · split
    · rfl
    · exact answerAtReception_rx ..

/-- What becomes of a record does not touch the bytes after it. -/
theorem receiveRecord_rx (s : State) (body : List Byte) (crc : W16) : (s.receiveRecord body crc).smp.rx = s.smp.rx := by
  unfold State.receiveRecord State.receiveCommand
  split
  · rfl
  · split
    · rfl
    · split
      · exact answerAtReception_rx ..
      · exact answerAtReception_rx ..
      · exact offerCommand_rx ..

/-- A whole record on a lane with no bytes waiting is received, and no byte of it is kept (R150). -/
theorem feed_wireRecord (s : State) (kind code tag : Byte) (payload : List Byte) (crc : W16) (hrx : s.smp.rx = [])
    (h : payload.length ≤ 2048) : s.feed (wireRecord kind code tag payload crc) =
      (s.withSmp { s.smp with rxIdle := 0 }).receiveRecord (recordBody kind code tag payload) crc := by
  obtain ⟨k, hk⟩ : ∃ k, (wireRecord kind code tag payload crc).length = k + 2 := ⟨payload.length + 7, by
    simp [wireRecord]⟩
  have hkeep (t : State) (ht : t.smp.rx = []) : t.withSmp { t.smp with rx := [] } = t := by
    rw [← ht]; rfl
  have ht := receiveRecord_rx (s.withSmp { s.smp with rxIdle := 0 }) (recordBody kind code tag payload) crc
  rw [State.feed, hrx, List.nil_append, hk, State.parse, parseOne_wireRecord _ _ _ _ _ h]
  exact hkeep _ (ht.trans hrx)

/-- A payload length above 2,048 is a bad record, and hunting goes on after its sync (R150). -/
theorem feed_tooLong (s : State) (kind code tag : Byte) (n : W16) (hrx : s.smp.rx = []) (h : 2048 < n.toNat) :
    s.feed ([0xC3, 0x3C, kind, code, tag] ++ le16 n) =
      (s.withSmp { s.smp with rxIdle := 0, rx := hunt ([kind, code, tag] ++ le16 n) }).count .badRecords 1 := by
  have hk : ([0xC3, 0x3C, kind, code, tag] ++ le16 n).length = 5 + 2 := rfl
  rw [State.feed, hrx, List.nil_append, hk, State.parse, parseOne_tooLong _ _ _ _ h]
  show State.parse (5 + 1) _ _ = _
  rw [State.parse, parseOne_short _ (by simp)]
  rfl

/-- A record with a good CRC and the kind COMMAND is a command received (R150). -/
theorem receiveRecord_command (s : State) (code tag : Byte) (payload : List Byte) :
    s.receiveRecord (recordBody 1 code tag payload) (crc16 (recordBody 1 code tag payload)) =
      s.receiveCommand code tag payload := by
  rw [State.receiveRecord, if_neg (fun h => h rfl), if_neg (fun h => h rfl)]
  rfl

/-- With no FREE entry a command is unheard, whatever it is (R153). -/
theorem receiveCommand_unheard (s : State) (code tag : Byte) (payload : List Byte) (h : s.smp.freeEntries = 0) :
    s.receiveCommand code tag payload = s.count .unheard 1 := by
  unfold State.receiveCommand
  split
  · exact if_pos h
  · exact if_pos h
  · exact if_pos h

/-- The event of bytes received outside a reset. -/
theorem exec_recordReceived (s : State) (bytes : List Byte) (hr : s.mdc.inReset = false) :
    exec (.recordReceived bytes) s = .next (s.feed bytes) :=
  occur_due (due := fun _ => true) (effect := fun s => s.feed bytes) hr rfl

/-- The record of a command, on a lane with no bytes waiting, is received as the command (R150). -/
theorem exec_recordReceived_command (s : State) (code tag : Byte) (payload : List Byte) (hr : s.mdc.inReset = false)
    (hrx : s.smp.rx = []) (h : payload.length ≤ 2048) : exec (.recordReceived (recordBytes 1 code tag payload)) s =
      .next ((s.withSmp { s.smp with rxIdle := 0 }).receiveCommand code tag payload) := by
  rw [exec_recordReceived s _ hr, ← receiveRecord_command]
  exact congrArg _ (feed_wireRecord s 1 code tag payload _ hrx h)

end Sys2Proof.Machine

section Settled
open Sys2Proof Sys2Proof.Machine

/-- Settles O21: the parser takes the whole record, its payload is classified as the command, and with a FREE entry and
a place in the queue the command is accepted. -/
theorem aRecordQueuesItsCommand : Obligations.ARecordQueuesItsCommand := by
  intro i s hw h0 hr hrx hfree hroom
  have hlen := length_payloadOf_le i hw h0
  rw [commandRecord, exec_recordReceived_command s _ _ _ hr hrx hlen, State.receiveCommand,
    classify_payloadOf i hw h0]
  have hfree' : (s.withSmp { s.smp with rxIdle := 0 }).smp.freeEntries ≠ 0 := Nat.ne_of_gt hfree
  exact congrArg _ ((if_neg hfree').trans (if_pos hroom))

/-- Settles O22: a command received is answered by its classification where an entry is FREE and the queue has no
place, and the records the parser or the CRC refuses count as bad. -/
theorem recordsThatAreNotAccepted : Obligations.RecordsThatAreNotAccepted := by
  intro s code tag payload hr hrx hlen s₀ answer
  have hcommand := exec_recordReceived_command s code tag payload hr hrx hlen
  have hanswer (st : Status) (hfree : 0 < s.smp.freeEntries) : s₀.answerAtReception code tag st = answer st :=
    if_neg (Nat.ne_of_gt hfree)
  refine ⟨fun hfree => ?_, fun hfree hc => ?_, fun hfree hc => ?_, fun c hfree hfull hc => ?_, fun kind hkind => ?_,
    fun kind crc hcrc => ?_, fun kind n hn => ?_⟩
  case refine_1 => exact hcommand.trans (congrArg _ (receiveCommand_unheard s₀ code tag payload hfree))
  case refine_2 => rw [hcommand, State.receiveCommand, hc]; exact congrArg _ (hanswer _ hfree)
  case refine_3 => rw [hcommand, State.receiveCommand, hc]; exact congrArg _ (hanswer _ hfree)
  case refine_4 =>
    rw [hcommand, State.receiveCommand, hc, ← hanswer .queueFull hfree]
    exact congrArg _ ((if_neg (Nat.ne_of_gt hfree)).trans (if_neg (Nat.not_lt.mpr hfull)))
  case refine_5 =>
    rw [exec_recordReceived s _ hr]
    exact congrArg _ ((feed_wireRecord s kind code tag payload _ hrx hlen).trans
      ((if_neg (fun h => h rfl)).trans (if_pos hkind)))
  case refine_6 =>
    rw [exec_recordReceived s _ hr]
    exact congrArg _ ((feed_wireRecord s kind code tag payload crc hrx hlen).trans (if_pos hcrc.symm))
  case refine_7 =>
    exact (occur_due (due := fun _ => true) (effect := fun s => s.feed _) hr rfl).trans
      (congrArg _ (feed_tooLong s kind code tag n hrx hn))

end Settled
end
